-- ==== Sys2Proof/Word.lean ====
section
/-! DEFINITION. The words of the block: bytes, 16-bit wire fields, and the 64 bits of a binary64 angle
(00_scope.md R10, R11; 20_memory.md R65). Arithmetic on binary64 is in Sys2Proof/Machine/Float64.lean. -/

namespace Sys2Proof

/-- One byte of the input stream, the BYTE of a token (R61, R89). -/
abbrev Byte := BitVec 8

/-- A 16-bit wire field (R64, R65). -/
abbrev U16 := BitVec 16

/-- An IEEE 754 binary64 value (R10), held as its 64-bit interchange encoding: bit 63 the sign, bits 62 to 52
the biased exponent, bits 51 to 0 the fraction. -/
structure F64 where
  bits : BitVec 64
deriving DecidableEq, Repr

end Sys2Proof
end

