-- ==== Sys2Proof/Config.lean ====
section
/-! DEFINITION. The constants the wire format fixes, and the one value the spec leaves free (the bits of a NaN that a
binary64 operation produces). PENDING_CAP, the parameter that R8 leaves open, is a field of State, so that a claim
about every state is a claim about every capacity (log entry 4). -/

namespace Sys2Proof.Config

/-- The sync byte (R80, R110). -/
def syncByte : Byte := 0x54#8

/-- LEN_MAX: the most point tuples of one frame (R6). -/
abbrev lenMax : Nat := 31

/-- FREE VALUE: sign and payload of the NaN that the binary64 operation number `op` gives for the operands `x` and `y`.
R15 takes the operations from IEEE 754, which does not say which NaN results (log entry 6). -/
opaque freeNan : (op : Nat) → (x y : BitVec 64) → BitVec 52

end Sys2Proof.Config
end

