-- ==== Sys2Proof/Machine/Float64.lean ====
section
/-! DEFINITION. IEEE 754 binary64 arithmetic (00_scope.md R15): `f64(n)`, `/.`, `*.`, `+.`, `-.`, `>=.`, each rounded once
to nearest, ties to even. Every finite binary64 is a whole number of units of 2^-1074, so a finite operand is read as
an exact integer of units, the operation is computed exactly, and `roundMag` rounds the exact quotient once. -/

namespace Sys2Proof.F64

/-- Encoding of infinity without its sign: exponent field 0x7FF, fraction 0. -/
def infMag : Nat := 0x7FF * 2 ^ 52

/-- The sign bit. -/
def neg? (x : F64) : Bool := x.bits.msb

/-- Exponent and fraction fields as one number; it grows with the magnitude. -/
def mag (x : F64) : Nat := x.bits.toNat % 2 ^ 63

def isNaN (x : F64) : Bool := decide (infMag < mag x)

def isInf (x : F64) : Bool := mag x == infMag

def isFinite (x : F64) : Bool := decide (mag x < infMag)

/-- The magnitude encoded by exponent and fraction fields `m`, in units of 2^-1074: subnormal for exponent field 0. -/
def unitsOf (m : Nat) : Nat :=
  if m / 2 ^ 52 = 0 then m % 2 ^ 52 else (2 ^ 52 + m % 2 ^ 52) * 2 ^ (m / 2 ^ 52 - 1)

/-- The magnitude of a finite value in units of 2^-1074. -/
def units (x : F64) : Nat := unitsOf (mag x)

/-- The value of a finite binary64 in units of 2^-1074, with its sign. -/
def signedUnits (x : F64) : Int := if neg? x then -(units x : Int) else (units x : Int)

/-- Build a value from its sign and its exponent and fraction fields. -/
def pack (neg : Bool) (m : Nat) : F64 := ⟨BitVec.ofNat 64 ((if neg then 2 ^ 63 else 0) + m)⟩

/-- How many low bits of a magnitude of `q` units a 53-bit significand drops. -/
def dropBits (q : Nat) : Nat := Nat.log2 q - 52

/-- `n / d` rounded to an integer, to nearest, ties to even. -/
def divEven (n d : Nat) : Nat :=
  let k := n / d
  let r := n % d
  if d < 2 * r || (2 * r == d && k % 2 == 1) then k + 1 else k

/-- The fields of the binary64 nearest to `n / d` units of 2^-1074, ties to even; infinity on overflow. A carry out of
the significand moves into the exponent field by itself. -/
def roundMag (n d : Nat) : Nat :=
  let e := dropBits (n / d)
  min infMag (e * 2 ^ 52 + divEven n (d * 2 ^ e))

/-- Operation numbers, the first argument of the free NaN. -/
def opAdd : Nat := 0
def opMul : Nat := 1
def opDiv : Nat := 2

/-- A quiet NaN whose sign and payload are free (log entry 6). -/
def nan (op : Nat) (x y : F64) : F64 :=
  let f := Config.freeNan op x.bits y.bits
  pack f.msb (infMag + 2 ^ 51 + f.toNat % 2 ^ 51)

/-- `f64(n)`: the integer `n` as a binary64. -/
def ofNat (n : Nat) : F64 := pack false (roundMag (n * 2 ^ 1074) 1)

/-- The value with its sign changed. -/
def negate (x : F64) : F64 := pack (!neg? x) (mag x)

/-- Round a signed number of units; an exact zero sum is +0 unless both operands are negative. -/
def roundSum (s : Int) (bothNeg : Bool) : F64 :=
  if s = 0 then pack bothNeg 0 else pack (decide (s < 0)) (roundMag s.natAbs 1)

/-- `x +. y`. -/
def add (x y : F64) : F64 :=
  if isNaN x || isNaN y then nan opAdd x y
  else if isInf x then (if isInf y && (neg? x != neg? y) then nan opAdd x y else x)
  else if isInf y then y
  else roundSum (signedUnits x + signedUnits y) (neg? x && neg? y)

/-- `x -. y`. -/
def sub (x y : F64) : F64 := add x (negate y)

/-- `x *. y`. -/
def mul (x y : F64) : F64 :=
  let s := neg? x != neg? y
  if isNaN x || isNaN y then nan opMul x y
  else if isInf x || isInf y then (if units x = 0 || units y = 0 then nan opMul x y else pack s infMag)
  else pack s (roundMag (units x * units y) (2 ^ 1074))

/-- `x /. y`. -/
def div (x y : F64) : F64 :=
  let s := neg? x != neg? y
  if isNaN x || isNaN y then nan opDiv x y
  else if isInf x then (if isInf y then nan opDiv x y else pack s infMag)
  else if isInf y then pack s 0
  else if units y = 0 then (if units x = 0 then nan opDiv x y else pack s infMag)
  else pack s (roundMag (units x * 2 ^ 1074) (units y))

/-- `x >=. y`, false when either is NaN. An infinity's `units` exceed those of every finite value. -/
def ge (x y : F64) : Bool :=
  !isNaN x && !isNaN y && decide (signedUnits y ≤ signedUnits x)

end Sys2Proof.F64
end

