-- ==== Sys2Proof/Syntax.lean ====
section
/-! DEFINITION. The block's operations as syntax: one constructor of `Instr` per row of spec/opcode_table.json
(16 token operations, 3 host events), with the FSM phases, the modes, the input token and the consumer's signals. -/

namespace Sys2Proof

/-- MODE, the delivery behaviour (10_state.md R22). -/
inductive Mode where
  | single | frames | points | rotations
deriving DecidableEq, Repr

/-- PHASE, the state of the frame FSM, the block's program counter (10_state.md R24). -/
inductive Phase where
  | hunt | info | spdL | spdH | staL | staH | dstL | dstH | int
  | endL | endH | tsL | tsH | csum | idle | term
deriving DecidableEq, Repr

/-- The reading phases, codes 0x0 to 0xD (R24). -/
def Phase.reading : Phase → Bool
  | .idle | .term => false
  | .hunt | .info | .spdL | .spdH | .staL | .staH | .dstL | .dstH | .int
  | .endL | .endH | .tsL | .tsH | .csum => true

/-- An input token in the 9-bit format of 30_encoding.md R89: FAIL and BYTE. With FAIL = 1 the token is `Fail` and
BYTE is ignored. -/
structure Token where
  fail : Bool
  byte : Byte
deriving DecidableEq, Repr

/-- What the consumer drives in one step (30_encoding.md R93): the event code EV and, sampled by RESET alone, the
configuration inputs `cfg_mode` and `cfg_rot_target`. EV = 0b00 is no event. -/
structure HostWord where
  ev           : BitVec 2
  cfgMode      : BitVec 2
  cfgRotTarget : BitVec 32
deriving DecidableEq, Repr

/-- The operations of the opcode table. A token operation carries the BYTE of the token it consumes, FAIL also the
phase it is taken in (both ignored by its effect, R232); RESET carries the configuration inputs (R260). -/
inductive Instr where
  | huntSync
  | huntSkip (b : Byte)
  | info (b : Byte)
  | spdL (b : Byte)
  | spdH (b : Byte)
  | staL (b : Byte)
  | staH (b : Byte)
  | dstL (b : Byte)
  | dstH (b : Byte)
  | int (b : Byte)
  | endL (b : Byte)
  | endH (b : Byte)
  | tsL (b : Byte)
  | tsH (b : Byte)
  | csum (b : Byte)
  | fail (p : Phase) (b : Byte)
  | pull
  | take
  | reset (m : Mode) (rot : BitVec 32)
deriving DecidableEq, Repr

/-- The names of the opcode table's rows. -/
inductive Op where
  | huntSync | huntSkip | info | spdL | spdH | staL | staH | dstL | dstH | int
  | endL | endH | tsL | tsH | csum | fail | pull | take | reset
deriving DecidableEq, Repr

/-- The row an instruction belongs to. -/
def Instr.op : Instr → Op
  | .huntSync => .huntSync
  | .huntSkip _ => .huntSkip
  | .info _ => .info
  | .spdL _ => .spdL
  | .spdH _ => .spdH
  | .staL _ => .staL
  | .staH _ => .staH
  | .dstL _ => .dstL
  | .dstH _ => .dstH
  | .int _ => .int
  | .endL _ => .endL
  | .endH _ => .endH
  | .tsL _ => .tsL
  | .tsH _ => .tsH
  | .csum _ => .csum
  | .fail _ _ => .fail
  | .pull => .pull
  | .take => .take
  | .reset _ _ => .reset

end Sys2Proof
end

