-- ==== Sys2Proof/Machine/State.lean ====
section
/-! DEFINITION. The architectural state (10_state.md), the items of the output channel, the reasons a step stops, and
the state after reset. The last four fields are no registers of the block: the implementation parameter PENDING_CAP,
and the three parameters of a run that R49 names (the transport's tokens, the consumer's events, what the consumer has
taken), held here because a step is a function of the state alone (log entries 1, 2, 4, 5). -/

namespace Sys2Proof.Machine

/-- A Point item (R44). -/
structure Point where
  distance  : U16
  intensity : Byte
  angle     : F64
deriving DecidableEq, Repr

/-- A Frame item (R43). -/
structure Frame where
  header      : Byte
  messageType : BitVec 3
  len         : BitVec 5
  speed       : U16
  startAngle  : F64
  points      : List Point
  endAngle    : F64
  timestamp   : U16
  checksum    : Byte
deriving DecidableEq, Repr

/-- The items of the output channel (R43 to R47). `seqEnd` is End, `err` is Err. -/
inductive Item where
  | frame (f : Frame)
  | point (p : Point)
  | batch (ps : List Point)
  | seqEnd
  | err
deriving DecidableEq, Repr

/-- The one value FAULT takes beside none (R50, R216). -/
inductive BlockFault where
  | pendingOverflow
deriving DecidableEq, Repr

structure State where
  /-- MODE (R22). -/
  mode       : Mode
  /-- ROT_TARGET (R23). -/
  rotTarget  : BitVec 32
  /-- PHASE (R24). -/
  phase      : Phase
  /-- REQ (R27). -/
  req        : Bool
  /-- OUT (R28). -/
  out        : Option Item
  /-- MSG_TYPE (R30). -/
  msgType    : BitVec 3
  /-- LEN (R31). -/
  len        : BitVec 5
  /-- SPEED (R32). -/
  speed      : U16
  /-- START_RAW (R33). -/
  startRaw   : U16
  /-- END_RAW (R34). -/
  endRaw     : U16
  /-- TIMESTAMP (R35). -/
  timestamp  : U16
  /-- CHECKSUM (R36). -/
  checksum   : Byte
  /-- IDX, 0 to 30 (R37). -/
  idx        : Fin 31
  /-- PT_DIST[0..30] (R38). -/
  ptDist     : Vector U16 31
  /-- PT_INT[0..30] (R38). -/
  ptInt      : Vector Byte 31
  /-- PBUF (R39). -/
  pbuf       : List Point
  /-- PB_NEXT (R40). -/
  pbNext     : Nat
  /-- PENDING (R41). -/
  pending    : List Point
  /-- COVERED (R42). -/
  covered    : F64
  /-- FAULT (R50). -/
  fault      : Option BlockFault
  /-- REFUSED (R50). -/
  refused    : Bool
  /-- PENDING_CAP (R8, R216): the capacity of PENDING in points, `none` if unbounded. No operation writes it. -/
  pendingCap : Option Nat
  /-- The input channel: the tokens the transport will supply and the engine has not consumed, oldest first (R61). -/
  chan       : List Token
  /-- The consumer's signals, one entry a step, next step first; EV = 0b00 leaves the step to the engine (R93, R239). -/
  host       : List HostWord
  /-- The items the consumer has taken, oldest first: what a run produces (R275). -/
  taken      : List Item
deriving DecidableEq, Repr

/-- Why a step has no next state. Each is safe: the run has no further step of any agent (R275). -/
inductive Fault where
  /-- Raised by the step when the consumer issues no more events, FAULT = none, REFUSED = 0 and the engine waits in a
  reading phase for a token the transport never supplies: the run is stuck (R267, R275). Safe. -/
  | stalled
  /-- Raised by the step when the consumer issues no more events and the engine, in IDLE or TERM, has no step: the run
  has ended (R26, R275). Safe. -/
  | ended
  /-- Raised by the step when the consumer issues no more events and FAULT or REFUSED is set (R244). Safe. -/
  | halted
deriving DecidableEq, Repr

/-- Why an instruction has no meaning. -/
inductive Refusal where
  /-- Raised by `exec` for an instruction that has no meaning yet; no arm raises it. Safe. -/
  | notModelled (mnemonic : String)
deriving DecidableEq, Repr

/-- +0.0, the reset value of COVERED (R42). -/
def State.covered0 : F64 := ⟨0#64⟩

/-- The state after a RESET with `cfg_mode` = SINGLE and `cfg_rot_target` = 1 (R260; log entry 8), PENDING_CAP
unbounded (R8), nothing offered by the transport and nothing asked by the consumer. -/
def State.reset : State where
  mode       := .single
  rotTarget  := 1#32
  phase      := .idle
  req        := false
  out        := none
  msgType    := 0#3
  len        := 0#5
  speed      := 0#16
  startRaw   := 0#16
  endRaw     := 0#16
  timestamp  := 0#16
  checksum   := 0#8
  idx        := 0
  ptDist     := Vector.replicate 31 0#16
  ptInt      := Vector.replicate 31 0#8
  pbuf       := []
  pbNext     := 0
  pending    := []
  covered    := State.covered0
  fault      := none
  refused    := false
  pendingCap := none
  chan       := []
  host       := []
  taken      := []

end Sys2Proof.Machine
end

