-- ==== Sys2Proof/Machine/Flags.lean ====
section
/-! DEFINITION. The block has no status flags and no condition codes (10_state.md R29), so no flag is computed. This file
holds the conditions that the operations branch on instead. -/

namespace Sys2Proof.Machine

/-- STA.H: a payload follows (R124). -/
def hasPoints (s : State) : Bool := decide (0 < s.len.toNat)

/-- INT: another point follows, `IDX + 1 < LEN` without wrap (R142). -/
def morePoints (s : State) : Bool := decide (s.idx.val + 1 < s.len.toNat)

/-- Neither FAULT nor REFUSED is set (R244). -/
def State.running (s : State) : Bool := s.fault.isNone && !s.refused

/-- `in_ready`: the engine takes a token (R62). -/
def State.inReady (s : State) : Bool := s.req && s.phase.reading && s.running

/-- PULL's precondition (R190). -/
def pullAllowed (s : State) : Bool := !s.req && s.out.isNone && s.running

/-- RESET's precondition on its configuration inputs (R260). -/
def resetAllowed (m : Mode) (rot : BitVec 32) : Bool := !(m == .rotations && rot == 0#32)

/-- In POINTS mode, the point of the last frame that PB_NEXT names, if PBUF is not exhausted (R190). -/
def waitingPoint (s : State) : Option Point := if s.mode = .points then s.pbuf[s.pbNext]? else none

/-- Appending `n` points to PENDING would exceed a bounded PENDING_CAP (R211, R216). -/
def overflows (s : State) (n : Nat) : Bool :=
  match s.pendingCap with
  | none => false
  | some cap => decide (cap < s.pending.length + n)

/-- The constant 360.0. -/
def c360 : F64 := F64.ofNat 360

/-- The batch threshold `f64(ROT_TARGET) *. 360.0` (R212). -/
def threshold (rot : BitVec 32) : F64 := F64.mul (F64.ofNat rot.toNat) c360

/-- The batch condition on COVERED (R212). -/
def batchDue (covered : F64) (rot : BitVec 32) : Bool := F64.ge covered (threshold rot)

end Sys2Proof.Machine
end

