-- ==== Sys2Proof/Machine/Operands.lean ====
section
/-! DEFINITION. The operand forms of the token operations: the fields of the info byte and the byte lanes of a 16-bit
wire field (30_encoding.md R82, R83; 20_memory.md R64). -/

namespace Sys2Proof.Machine

/-- `b[7:5]`, message_type (R82). -/
def infoType (b : Byte) : BitVec 3 := b.extractLsb' 5 3

/-- `b[4:0]`, len (R82). -/
def infoLen (b : Byte) : BitVec 5 := b.extractLsb' 0 5

/-- `R[7:0] <- b`: the other byte is unchanged (R12, R64). -/
def setLow (r : U16) (b : Byte) : U16 := r.extractLsb' 8 8 ++ b

/-- `R[15:8] <- b`: the other byte is unchanged (R12, R64). -/
def setHigh (r : U16) (b : Byte) : U16 := b ++ r.extractLsb' 0 8

end Sys2Proof.Machine
end

