-- ==== Sys2Proof/Machine/Ops.lean ====
section
/-! DEFINITION. The operations the meanings share: writing PHASE, delivering an item (00_scope.md R14), refusing a host
event (60_exceptions.md R242), the entry of the one error, TransportError (R232), and the fault (R216). There is no
return-from-error operation (R237). -/

namespace Sys2Proof.Machine

/-- `phase <- p` (R12). -/
def State.setPhase (p : Phase) (s : State) : State := { s with phase := p }

/-- `MSG_TYPE <- t`, `LEN <- l`. -/
def State.setInfo (t : BitVec 3) (l : BitVec 5) (s : State) : State := { s with msgType := t, len := l }

/-- `SPEED <- v`. -/
def State.setSpeed (v : U16) (s : State) : State := { s with speed := v }

/-- `START_RAW <- v`. -/
def State.setStart (v : U16) (s : State) : State := { s with startRaw := v }

/-- `END_RAW <- v`. -/
def State.setEnd (v : U16) (s : State) : State := { s with endRaw := v }

/-- `TIMESTAMP <- v`. -/
def State.setTimestamp (v : U16) (s : State) : State := { s with timestamp := v }

/-- `CHECKSUM <- b`. -/
def State.setChecksum (b : Byte) (s : State) : State := { s with checksum := b }

/-- `IDX <- k`. -/
def State.setIdx (k : Fin 31) (s : State) : State := { s with idx := k }

/-- `PBUF <- ps`, `PB_NEXT <- n`. -/
def State.setPbuf (ps : List Point) (n : Nat) (s : State) : State := { s with pbuf := ps, pbNext := n }

/-- `PENDING <- ps`, `COVERED <- c`. -/
def State.setPending (ps : List Point) (c : F64) (s : State) : State := { s with pending := ps, covered := c }

/-- `REQ <- 1`: a PULL is outstanding. -/
def State.request (s : State) : State := { s with req := true }

/-- The item in OUT goes to the consumer: `OUT <- none` (R195). -/
def State.handOver (it : Item) (s : State) : State := { s with out := none, taken := s.taken ++ [it] }

/-- The tokens still to be consumed. -/
def State.setChan (ts : List Token) (s : State) : State := { s with chan := ts }

/-- The consumer's coming signals. -/
def State.setHost (hs : List HostWord) (s : State) : State := { s with host := hs }

/-- `Deliver(item)`: `OUT <- item`, `REQ <- 0` (R14). -/
def State.deliver (it : Item) (s : State) : State := { s with out := some it, req := false }

/-- A refused host event: `REFUSED <- 1` and nothing else (R242). -/
def State.refuse (s : State) : State := { s with refused := true }

/-- `FAULT <- PendingOverflow` (R216). -/
def State.overflow (s : State) : State := { s with fault := some .pendingOverflow }

/-- `PT_DIST[IDX]`. -/
def State.curDist (s : State) : U16 := s.ptDist.get s.idx

/-- `PT_DIST[IDX] <- d`. -/
def State.setCurDist (d : U16) (s : State) : State := { s with ptDist := s.ptDist.set s.idx.val d }

/-- `PT_INT[IDX] <- b`. -/
def State.setCurInt (b : Byte) (s : State) : State := { s with ptInt := s.ptInt.set s.idx.val b }

/-- The sequence state a failure drops: `PENDING <- []`, `COVERED <- +0.0`, `PBUF <- []`, `PB_NEXT <- 0` (R232). -/
def State.dropSequence (s : State) : State := (s.setPending [] State.covered0).setPbuf [] 0

/-- `raise TransportError()` (R232): surfaced as Err in SINGLE mode, swallowed into End and TERM in the others. -/
def raiseTransportError (s : State) : State :=
  match s.mode with
  | .single => (s.deliver .err).setPhase .idle
  | .frames | .points | .rotations => (s.dropSequence.deliver .seqEnd).setPhase .term

/-- Every register at its reset value, MODE and ROT_TARGET from the configuration inputs (R260). The transport, the
consumer's coming events, what it has taken and PENDING_CAP are not touched. -/
def State.applyReset (m : Mode) (rot : BitVec 32) (s : State) : State :=
  { State.reset with
    mode := m, rotTarget := rot
    pendingCap := s.pendingCap, chan := s.chan, host := s.host, taken := s.taken }

end Sys2Proof.Machine
end

