-- ==== Sys2Proof/Machine/Errors.lean ====
section
/-! DEFINITION. The error operation FAIL (60_exceptions.md R232) and the host event RESET (70_reset_and_hazards.md R260). -/

namespace Sys2Proof.Machine

/-- FAIL: raises TransportError in every reading phase; phase and byte have no effect (R232). -/
def execFail (_ : Phase) (_ : Byte) (s : State) : Host.Outcome State Fault Refusal :=
  .next (raiseTransportError s)

/-- RESET (R260); refused for ROTATIONS with a target of 0 (R242). -/
def execReset (m : Mode) (rot : BitVec 32) (s : State) : Host.Outcome State Fault Refusal :=
  .next (if resetAllowed m rot then s.applyReset m rot else s.refuse)

end Sys2Proof.Machine
end

