-- ==== Sys2Proof/Machine/Header.lean ====
section
/-! DEFINITION. The header fields (41_header_fields.md R120 to R124). -/

namespace Sys2Proof.Machine

/-- INFO (R120). -/
def execInfo (b : Byte) (s : State) : Host.Outcome State Fault Refusal :=
  .next ((s.setInfo (infoType b) (infoLen b)).setPhase .spdL)

/-- SPD.L (R121). -/
def execSpdL (b : Byte) (s : State) : Host.Outcome State Fault Refusal :=
  .next ((s.setSpeed (setLow s.speed b)).setPhase .spdH)

/-- SPD.H (R122). -/
def execSpdH (b : Byte) (s : State) : Host.Outcome State Fault Refusal :=
  .next ((s.setSpeed (setHigh s.speed b)).setPhase .staL)

/-- STA.L (R123). -/
def execStaL (b : Byte) (s : State) : Host.Outcome State Fault Refusal :=
  .next ((s.setStart (setLow s.startRaw b)).setPhase .staH)

/-- STA.H: branch on the length (R124). -/
def execStaH (b : Byte) (s : State) : Host.Outcome State Fault Refusal :=
  .next ((s.setStart (setHigh s.startRaw b)).setPhase (if hasPoints s then .dstL else .endL))

end Sys2Proof.Machine
end

