-- ==== Sys2Proof/Machine/Payload.lean ====
section
/-! DEFINITION. The point payload (42_payload.md R140 to R142). -/

namespace Sys2Proof.Machine

/-- DST.L (R140). -/
def execDstL (b : Byte) (s : State) : Host.Outcome State Fault Refusal :=
  .next ((s.setCurDist (setLow s.curDist b)).setPhase .dstH)

/-- DST.H (R141). -/
def execDstH (b : Byte) (s : State) : Host.Outcome State Fault Refusal :=
  .next ((s.setCurDist (setHigh s.curDist b)).setPhase .int)

/-- INT: take the intensity, and loop or leave the payload (R142). `IDX + 1 < LEN` keeps `IDX + 1` at most 30, so the
sum does not wrap. -/
def execInt (b : Byte) (s : State) : Host.Outcome State Fault Refusal :=
  .next
    (if morePoints s then ((s.setCurInt b).setIdx (s.idx + 1)).setPhase .dstL
     else (s.setCurInt b).setPhase .endL)

end Sys2Proof.Machine
end

