-- ==== Sys2Proof/Machine/Sync.lean ====
section
/-! DEFINITION. Header synchronisation (40_sync.md R110, R111). -/

namespace Sys2Proof.Machine

/-- HUNT.SYNC (R110). -/
def execHuntSync (s : State) : Host.Outcome State Fault Refusal :=
  .next ((s.setIdx 0).setPhase .info)

/-- HUNT.SKIP: the byte is discarded (R111). -/
def execHuntSkip (_ : Byte) (s : State) : Host.Outcome State Fault Refusal :=
  .next (s.setPhase .hunt)

end Sys2Proof.Machine
end

