-- ==== Sys2Proof/Machine/Frame.lean ====
section
/-! DEFINITION. What runs when a frame's last byte has been consumed: angles, increment, points and the Frame item
(44_frame_complete.md R170 to R173). -/

namespace Sys2Proof.Machine

/-- The constant 100.0. -/
def c100 : F64 := F64.ofNat 100

/-- Degrees of a raw angle: `f64(raw) /. 100.0` (R170). -/
def degrees (raw : U16) : F64 := F64.div (F64.ofNat raw.toNat) c100

/-- The angle increment: `(end -. start) /. f64(LEN - 1)` for LEN ≥ 2, +0.0 for LEN 0 and 1 (R171). -/
def increment (len : BitVec 5) (startAngle endAngle : F64) : F64 :=
  if 2 ≤ len.toNat then F64.div (F64.sub endAngle startAngle) (F64.ofNat (len.toNat - 1)) else F64.ofNat 0

/-- `start_angle +. (inc *. f64(i))` (R172). -/
def pointAngle (startAngle inc : F64) (i : Nat) : F64 := F64.add startAngle (F64.mul inc (F64.ofNat i))

/-- Point `i` of the frame in the registers (R172). -/
def pointAt (s : State) (startAngle inc : F64) (i : Nat) : Point :=
  { distance := s.ptDist[i]?.getD 0#16
    intensity := s.ptInt[i]?.getD 0#8
    angle := pointAngle startAngle inc i }

/-- The points of the frame in the registers, in wire order (R172). -/
def framePoints (s : State) : List Point :=
  let a0 := degrees s.startRaw
  let inc := increment s.len a0 (degrees s.endRaw)
  (List.range s.len.toNat).map (pointAt s a0 inc)

/-- The completed Frame item (R173). -/
def completedFrame (s : State) : Frame :=
  { header := Config.syncByte
    messageType := s.msgType
    len := s.len
    speed := s.speed
    startAngle := degrees s.startRaw
    points := framePoints s
    endAngle := degrees s.endRaw
    timestamp := s.timestamp
    checksum := s.checksum }

end Sys2Proof.Machine
end

