-- ==== Sys2Proof/Machine/Rotation.lean ====
section
/-! DEFINITION. Rotation aggregation (46_rotation.md R210 to R216). -/

namespace Sys2Proof.Machine

/-- The sweep of a frame (R210). -/
def sweep (startAngle endAngle : F64) : F64 :=
  if F64.ge endAngle startAngle then F64.sub endAngle startAngle
  else F64.add (F64.sub c360 startAngle) endAngle

/-- Append a frame's points and add its sweep (R211). -/
def State.accumulate (f : Frame) (s : State) : State :=
  s.setPending (s.pending ++ f.points) (F64.add s.covered (sweep f.startAngle f.endAngle))

/-- Emit PENDING as one Batch and start anew (R211, R213). -/
def State.emitBatch (s : State) : State :=
  ((s.deliver (.batch s.pending)).setPending [] State.covered0).setPhase .idle

/-- RotFrame (R211). -/
def rotFrame (f : Frame) (s : State) : State :=
  if overflows s f.len.toNat then s.overflow
  else
    let s1 := s.accumulate f
    if batchDue s1.covered s1.rotTarget then s1.emitBatch else s1.setPhase .hunt

end Sys2Proof.Machine
end

