-- ==== Sys2Proof/Machine/Streams.lean ====
section
/-! DEFINITION. The delivery procedures (45_streams.md R192 to R194), their dispatch by MODE (44_frame_complete.md R174),
and the consumer's events PULL and TAKE (R190, R195). -/

namespace Sys2Proof.Machine

/-- DeliverFrame, the same in SINGLE and FRAMES mode (R192, R193). -/
def deliverFrame (f : Frame) (s : State) : State := (s.deliver (.frame f)).setPhase .idle

/-- DeliverPoints (R194). -/
def deliverPoints (ps : List Point) (s : State) : State :=
  match ps with
  | [] => (s.setPbuf [] 0).setPhase .hunt
  | p :: rest => ((s.setPbuf (p :: rest) 1).deliver (.point p)).setPhase .idle

/-- The dispatch of a completed frame by MODE (R174). -/
def dispatchFrame (f : Frame) (s : State) : State :=
  match s.mode with
  | .single => deliverFrame f s
  | .frames => deliverFrame f s
  | .points => deliverPoints f.points s
  | .rotations => rotFrame f s

/-- FrameComplete (R174). -/
def frameComplete (s : State) : State := dispatchFrame (completedFrame s) s

/-- The effect of a PULL whose precondition holds (R190). -/
def State.pull (s : State) : State :=
  if s.phase = .term then s.deliver .seqEnd
  else
    match waitingPoint s with
    | some p => (s.deliver (.point p)).setPbuf s.pbuf (s.pbNext + 1)
    | none => s.request.setPhase .hunt

/-- PULL (R190); outside its precondition it is refused (R242). -/
def execPull (s : State) : Host.Outcome State Fault Refusal :=
  .next (if pullAllowed s then s.pull else s.refuse)

/-- TAKE: the item in OUT goes to the consumer (R195); outside its precondition it is refused (R242). -/
def execTake (s : State) : Host.Outcome State Fault Refusal :=
  .next
    (match s.out with
     | some it => if s.running then s.handOver it else s.refuse
     | none => s.refuse)

end Sys2Proof.Machine
end

