-- ==== Sys2Proof/Machine/Trailer.lean ====
section
/-! DEFINITION. The trailer fields (43_trailer.md R150 to R154). -/

namespace Sys2Proof.Machine

/-- END.L (R150). -/
def execEndL (b : Byte) (s : State) : Host.Outcome State Fault Refusal :=
  .next ((s.setEnd (setLow s.endRaw b)).setPhase .endH)

/-- END.H (R151). -/
def execEndH (b : Byte) (s : State) : Host.Outcome State Fault Refusal :=
  .next ((s.setEnd (setHigh s.endRaw b)).setPhase .tsL)

/-- TS.L (R152). -/
def execTsL (b : Byte) (s : State) : Host.Outcome State Fault Refusal :=
  .next ((s.setTimestamp (setLow s.timestamp b)).setPhase .tsH)

/-- TS.H (R153). -/
def execTsH (b : Byte) (s : State) : Host.Outcome State Fault Refusal :=
  .next ((s.setTimestamp (setHigh s.timestamp b)).setPhase .csum)

/-- CSUM: store the byte, never verified, and complete the frame (R154). -/
def execCsum (b : Byte) (s : State) : Host.Outcome State Fault Refusal :=
  .next (frameComplete (s.setChecksum b))

end Sys2Proof.Machine
end

