-- ==== Sys2Proof/Machine/Dispatch.lean ====
section
/-! DEFINITION. One arm per operation of the opcode table. -/

namespace Sys2Proof.Machine

/-- The meaning of each operation. -/
def exec (i : Instr) (s : State) : Host.Outcome State Fault Refusal :=
  match i with
  | .huntSync => Sys2Proof.Machine.execHuntSync s
  | .huntSkip b => Sys2Proof.Machine.execHuntSkip b s
  | .info b => Sys2Proof.Machine.execInfo b s
  | .spdL b => Sys2Proof.Machine.execSpdL b s
  | .spdH b => Sys2Proof.Machine.execSpdH b s
  | .staL b => Sys2Proof.Machine.execStaL b s
  | .staH b => Sys2Proof.Machine.execStaH b s
  | .dstL b => Sys2Proof.Machine.execDstL b s
  | .dstH b => Sys2Proof.Machine.execDstH b s
  | .int b => Sys2Proof.Machine.execInt b s
  | .endL b => Sys2Proof.Machine.execEndL b s
  | .endH b => Sys2Proof.Machine.execEndH b s
  | .tsL b => Sys2Proof.Machine.execTsL b s
  | .tsH b => Sys2Proof.Machine.execTsH b s
  | .csum b => Sys2Proof.Machine.execCsum b s
  | .fail p b => Sys2Proof.Machine.execFail p b s
  | .pull => Sys2Proof.Machine.execPull s
  | .take => Sys2Proof.Machine.execTake s
  | .reset m rot => Sys2Proof.Machine.execReset m rot s

end Sys2Proof.Machine
end

