-- ==== Sys2Proof/WellFormed.lean ====
section
/-! DEFINITION. The two operand checks the encoding makes: HUNT.SKIP is not taken on the sync byte (R91, R111), and
FAIL is taken in a reading phase only (R91, R92, R232). Every other operand value is legal (R82, R87). -/

namespace Sys2Proof

/-- The operands are ones the decode map of 30_encoding.md R91 admits. -/
def Instr.wf : Instr → Bool
  | .huntSkip b => b != Config.syncByte
  | .fail p _ => p.reading
  | .huntSync | .info _ | .spdL _ | .spdH _ | .staL _ | .staH _ | .dstL _ | .dstH _ | .int _
  | .endL _ | .endH _ | .tsL _ | .tsH _ | .csum _ | .pull | .take | .reset _ _ => true

end Sys2Proof
end

