-- ==== Sys2Proof/Decode.lean ====
section
/-! DEFINITION. The decode word (30_encoding.md R90), the decode map (R91, R92), the host event codes (R93), their
encoder, and the opcode table's match and mask rows. -/

namespace Sys2Proof

/-- The 4-bit code of a phase (R24). -/
def Phase.code : Phase → BitVec 4
  | .hunt => 0x0 | .info => 0x1 | .spdL => 0x2 | .spdH => 0x3
  | .staL => 0x4 | .staH => 0x5 | .dstL => 0x6 | .dstH => 0x7
  | .int  => 0x8 | .endL => 0x9 | .endH => 0xA | .tsL  => 0xB
  | .tsH  => 0xC | .csum => 0xD | .idle => 0xE | .term => 0xF

/-- The phase with a given code; all 16 codes are phases (R24). -/
def Phase.ofCode (c : BitVec 4) : Phase :=
  match c.toNat with
  | 0x0 => .hunt | 0x1 => .info | 0x2 => .spdL | 0x3 => .spdH
  | 0x4 => .staL | 0x5 => .staH | 0x6 => .dstL | 0x7 => .dstH
  | 0x8 => .int  | 0x9 => .endL | 0xA => .endH | 0xB => .tsL
  | 0xC => .tsH  | 0xD => .csum | 0xE => .idle | _ => .term

/-- The 2-bit code of a mode (R22). -/
def Mode.code : Mode → BitVec 2
  | .single => 0b00 | .frames => 0b01 | .points => 0b10 | .rotations => 0b11

/-- The mode with a given code; all four codes are modes (R22). -/
def Mode.ofCode (c : BitVec 2) : Mode :=
  match c.toNat with
  | 0 => .single | 1 => .frames | 2 => .points | _ => .rotations

/-- Why a word is no operation. -/
inductive DecodeError where
  /-- The decode word's PHASE is IDLE or TERM, in which no token is decoded (R92). -/
  | noTokenInPhase
  /-- The event code 0b00 is no event (R93). -/
  | noEvent
deriving DecidableEq, Repr

/-- The decode word {PHASE, FAIL, BYTE}: DW[12:9] = PHASE, DW[8] = FAIL, DW[7:0] = BYTE (R90). -/
def decodeWord (p : Phase) (t : Token) : BitVec 13 :=
  p.code ++ BitVec.ofBool t.fail ++ t.byte

/-- DW[12:9], the phase. -/
def dwPhase (dw : BitVec 13) : Phase := Phase.ofCode (dw.extractLsb' 9 4)

/-- DW[8], the FAIL bit. -/
def dwFail (dw : BitVec 13) : Bool := dw.getLsbD 8

/-- DW[7:0], the byte. -/
def dwByte (dw : BitVec 13) : Byte := dw.extractLsb' 0 8

/-- The operation a byte selects in a reading phase (R91); none in IDLE and TERM (R92). -/
def decodeByte (p : Phase) (b : Byte) : Except DecodeError Instr :=
  match p with
  | .hunt => .ok (if b = Config.syncByte then .huntSync else .huntSkip b)
  | .info => .ok (.info b)
  | .spdL => .ok (.spdL b)
  | .spdH => .ok (.spdH b)
  | .staL => .ok (.staL b)
  | .staH => .ok (.staH b)
  | .dstL => .ok (.dstL b)
  | .dstH => .ok (.dstH b)
  | .int  => .ok (.int b)
  | .endL => .ok (.endL b)
  | .endH => .ok (.endH b)
  | .tsL  => .ok (.tsL b)
  | .tsH  => .ok (.tsH b)
  | .csum => .ok (.csum b)
  | .idle => .error .noTokenInPhase
  | .term => .error .noTokenInPhase

/-- The operation a Fail token selects: FAIL in every reading phase (R91, R232), none in IDLE and TERM (R92). -/
def decodeFail (p : Phase) (b : Byte) : Except DecodeError Instr :=
  if p.reading then .ok (.fail p b) else .error .noTokenInPhase

/-- The operation a decode word selects (R91, R92). -/
def decodeToken (dw : BitVec 13) : Except DecodeError Instr :=
  if dwFail dw then decodeFail (dwPhase dw) (dwByte dw) else decodeByte (dwPhase dw) (dwByte dw)

/-- The host event an event code selects (R93). The configuration inputs are operands of RESET alone. -/
def decodeEvent (h : HostWord) : Except DecodeError Instr :=
  match h.ev.toNat with
  | 0b01 => .ok .pull
  | 0b10 => .ok .take
  | 0b11 => .ok (.reset (Mode.ofCode h.cfgMode) h.cfgRotTarget)
  | _ => .error .noEvent

/-- The two kinds of words the block decodes. -/
inductive Words where
  | token (dw : BitVec 13)
  | event (h : HostWord)
deriving DecidableEq, Repr

/-- Decoding, total on all words. -/
def decode : Words → Except DecodeError Instr
  | .token dw => decodeToken dw
  | .event h => decodeEvent h

/-- The decode word of phase `p` and a byte token. -/
def byteWord (p : Phase) (b : Byte) : BitVec 13 := decodeWord p { fail := false, byte := b }

/-- The consumer's signals for an event without operands. -/
def plainEvent (ev : BitVec 2) : HostWord := { ev := ev, cfgMode := 0, cfgRotTarget := 0 }

/-- The words of an instruction (R90, R91, R93). PULL and TAKE are written with the configuration inputs at zero. -/
def encode : Instr → Words
  | .huntSync => .token (byteWord .hunt Config.syncByte)
  | .huntSkip b => .token (byteWord .hunt b)
  | .info b => .token (byteWord .info b)
  | .spdL b => .token (byteWord .spdL b)
  | .spdH b => .token (byteWord .spdH b)
  | .staL b => .token (byteWord .staL b)
  | .staH b => .token (byteWord .staH b)
  | .dstL b => .token (byteWord .dstL b)
  | .dstH b => .token (byteWord .dstH b)
  | .int b => .token (byteWord .int b)
  | .endL b => .token (byteWord .endL b)
  | .endH b => .token (byteWord .endH b)
  | .tsL b => .token (byteWord .tsL b)
  | .tsH b => .token (byteWord .tsH b)
  | .csum b => .token (byteWord .csum b)
  | .fail p b => .token (decodeWord p { fail := true, byte := b })
  | .pull => .event (plainEvent 0b01)
  | .take => .event (plainEvent 0b10)
  | .reset m rot => .event { ev := 0b11, cfgMode := m.code, cfgRotTarget := rot }

/-- One token row of the opcode table: the row is selected when `(DW & mask) = match`, rows with a lower priority number
tried first (R90). -/
structure TableRow where
  op : Op
  bits : BitVec 13
  mask : BitVec 13
  priority : Nat
deriving DecidableEq, Repr

/-- The token rows of spec/opcode_table.json, as the table gives them. -/
def tokenTable : List TableRow :=
  [ ⟨.huntSync, 0x0054, 0x1FFF, 0⟩, ⟨.huntSkip, 0x0000, 0x1F00, 1⟩,
    ⟨.info, 0x0200, 0x1F00, 0⟩, ⟨.spdL, 0x0400, 0x1F00, 0⟩,
    ⟨.spdH, 0x0600, 0x1F00, 0⟩, ⟨.staL, 0x0800, 0x1F00, 0⟩,
    ⟨.staH, 0x0A00, 0x1F00, 0⟩, ⟨.dstL, 0x0C00, 0x1F00, 0⟩ ] ++
  [ ⟨.dstH, 0x0E00, 0x1F00, 0⟩, ⟨.int, 0x1000, 0x1F00, 0⟩,
    ⟨.endL, 0x1200, 0x1F00, 0⟩, ⟨.endH, 0x1400, 0x1F00, 0⟩,
    ⟨.tsL, 0x1600, 0x1F00, 0⟩, ⟨.tsH, 0x1800, 0x1F00, 0⟩,
    ⟨.csum, 0x1A00, 0x1F00, 0⟩, ⟨.fail, 0x0100, 0x0100, 0⟩ ]

/-- The row's fixed bits agree with the decode word. -/
def TableRow.matches (r : TableRow) (dw : BitVec 13) : Bool := (dw &&& r.mask) == r.bits

/-- The row is the one selected: it matches, and no matching row has a lower priority number (R90). -/
def TableRow.selected (r : TableRow) (dw : BitVec 13) : Bool :=
  r.matches dw && tokenTable.all fun r' => !r'.matches dw || decide (r.priority ≤ r'.priority)

/-- The consumer's signals as one number: EV in bits 1:0, `cfg_mode` in bits 3:2, `cfg_rot_target` in bits 35:4
(the places of the configuration inputs are the model's, log entry 3). -/
def HostWord.ofNat (w : Nat) : HostWord :=
  { ev := BitVec.ofNat 2 w, cfgMode := BitVec.ofNat 2 (w / 4), cfgRotTarget := BitVec.ofNat 32 (w / 16) }

/-- The opcode table's two formats, told apart by their width: a host event row has 2 bits (one byte), a token row the
13 bits of the decode word (two bytes). -/
def wordsOfTable (nbits w : Nat) : Option Words :=
  if nbits ≤ 8 then
    if w < 2 ^ 36 then some (.event (HostWord.ofNat w)) else none
  else if w < 2 ^ 13 then some (.token (BitVec.ofNat 13 w)) else none

/-- The instruction the decoder reads from a word numbered as spec/opcode_table.json numbers it. -/
def decodeTableWord (nbits w : Nat) : Option Instr :=
  match wordsOfTable nbits w with
  | some ws =>
    match decode ws with
    | .ok i => some i
    | .error _ => none
  | none => none

end Sys2Proof
end

