-- ==== Sys2Proof/Machine/Fetch.lean ====
section
/-! DEFINITION. Which agent has the next step and what it runs: the consumer's next signals first, then, where they are
no event, the engine on the oldest token (10_state.md R26; 20_memory.md R62; 30_encoding.md R90, R93;
60_exceptions.md R239). Log entry 1 says how every interleaving of consumer and engine is one list of signals. -/

namespace Sys2Proof.Machine

/-- Why no agent has a step (R275, R244). -/
def State.whyStopped (s : State) : Fault :=
  if !s.running then .halted else if s.phase.reading then .stalled else .ended

/-- What the next step does. -/
inductive Fetch where
  /-- Run the instruction in the state that holds what is left to fetch. -/
  | run (i : Instr) (s : State)
  /-- The consumer has no event in this step and the engine has no step: only the consumer's entry is used up. -/
  | wait (s : State)
  /-- No agent has a step. -/
  | stop (r : Fault)

/-- The engine's step: consume the oldest token and run the operation its decode word selects (R26, R62, R90);
`none` if the engine has no step. -/
def fetchToken (s : State) : Option (Instr × State) :=
  if s.inReady then
    match s.chan with
    | [] => none
    | t :: rest =>
      match decodeToken (decodeWord s.phase t) with
      | .ok i => some (i, s.setChan rest)
      | .error _ => none
  else none

/-- The next step. -/
def fetch (s : State) : Fetch :=
  match s.host with
  | [] =>
    match fetchToken s with
    | some (i, s') => .run i s'
    | none => .stop s.whyStopped
  | h :: hs =>
    match decodeEvent h with
    | .ok i => .run i (s.setHost hs)
    | .error _ =>
      match fetchToken (s.setHost hs) with
      | some (i, s') => .run i s'
      | none => .wait (s.setHost hs)

/-- Put a decode word where the engine fetches it: its token is the next of the channel, the phase is the word's, a
PULL is outstanding, and the consumer has no event in this step. -/
def State.offerToken (dw : BitVec 13) (s : State) : State :=
  { s with
    phase := dwPhase dw
    req := true
    fault := none
    refused := false
    chan := { fail := dwFail dw, byte := dwByte dw } :: s.chan
    host := plainEvent 0b00 :: s.host }

/-- Put a host event where the step fetches it: it is what the consumer drives next. -/
def State.offerEvent (h : HostWord) (s : State) : State := s.setHost (h :: s.host)

/-- Place the words of one instruction. -/
def State.offerWords (ws : Option Words) (s : State) : State :=
  match ws with
  | some (.token dw) => s.offerToken dw
  | some (.event h) => s.offerEvent h
  | none => s

end Sys2Proof.Machine
end

