-- ==== Sys2Proof/Machine/Step.lean ====
section
/-! DEFINITION. One step of the machine: one token, one PULL, one TAKE or one RESET (70_reset_and_hazards.md R274). -/

namespace Sys2Proof.Machine

/-- One step. -/
def step (s : State) : Host.Outcome State Fault Refusal :=
  match fetch s with
  | .run i s' => exec i s'
  | .wait s' => .next s'
  | .stop r => .fault r

/-- The state in which the next step fetches and runs the instruction with the given words of the opcode table. -/
def State.withFetchWord (s : State) (nbits w : Nat) : State := s.offerWords (wordsOfTable nbits w)

end Sys2Proof.Machine
end

