-- ==== Sys2Proof/Machine/Signals.lean ====
section
/-! DEFINITION. The block's output signals as functions of the state (45_streams.md R191; 92_eei_decisions.md D14, D27).
They are informative in the spec: no operation reads them. `in_ready` is `State.inReady` in Flags.lean. -/

namespace Sys2Proof.Machine

/-- `out_valid`: OUT ≠ none (R191). -/
def State.outValid (s : State) : Bool := s.out.isSome

/-- The code of an item's kind: FRAME 0, POINT 1, BATCH 2, END 3, ERR 4 (D27). -/
def itemKind : Item → BitVec 3
  | .frame _ => 0
  | .point _ => 1
  | .batch _ => 2
  | .seqEnd => 3
  | .err => 4

/-- `out_kind`, the kind of the item in OUT; none while OUT is empty. -/
def State.outKind (s : State) : Option (BitVec 3) := s.out.map itemKind

/-- One beat of a Batch burst on the output channel (D14). -/
inductive BatchBeat where
  | header (count : BitVec 32)
  | point (p : Point)
deriving DecidableEq, Repr

/-- The serialised form of a Batch: one header beat with the point count, then the points (D14). -/
def batchBeats (ps : List Point) : List BatchBeat := .header (BitVec.ofNat 32 ps.length) :: ps.map .point

end Sys2Proof.Machine
end

