-- ==== Sys2Proof/Machine/Wire.lean ====
section
/-! DEFINITION. The stream notation of 30_encoding.md R95 and R96: the bytes of a frame on the wire (R80), and the Frame
item they stand for (44_frame_complete.md R170 to R173). The machine does not use this file; statements do. -/

namespace Sys2Proof.Machine

/-- A byte token (R61). -/
def byteToken (b : Byte) : Token := { fail := false, byte := b }

/-- A Fail token with BYTE = 0, the convention of R89. -/
def failToken : Token := { fail := true, byte := 0 }

/-- `U16 v`: low byte first (R95, R64). -/
def u16Bytes (v : U16) : List Byte := [v.extractLsb' 0 8, v.extractLsb' 8 8]

/-- `INFO t, l`: the byte `(t << 5) | l` (R95). -/
def infoByte (t : BitVec 3) (l : BitVec 5) : Byte := t ++ l

/-- The arguments of `FRAME t, s, a0, [(d, i), ...], a1, ts, cs` (R96). -/
structure WireFrame where
  msgType   : BitVec 3
  speed     : U16
  startRaw  : U16
  points    : List (U16 × Byte)
  endRaw    : U16
  timestamp : U16
  checksum  : Byte
deriving DecidableEq, Repr

/-- `len`, the number of tuples; a FRAME has at most 31 (R96). -/
def WireFrame.len (w : WireFrame) : BitVec 5 := BitVec.ofNat 5 w.points.length

/-- The bytes of the point tuples, three a point (R7, R85). -/
def pointBytes (ps : List (U16 × Byte)) : List Byte := ps.flatMap fun p => u16Bytes p.1 ++ [p.2]

/-- The bytes of the frame, in wire order (R80, R96). -/
def WireFrame.bytes (w : WireFrame) : List Byte :=
  [Config.syncByte, infoByte w.msgType w.len] ++ u16Bytes w.speed ++ u16Bytes w.startRaw ++ pointBytes w.points ++
    u16Bytes w.endRaw ++ u16Bytes w.timestamp ++ [w.checksum]

/-- The tokens of the frame. -/
def WireFrame.tokens (w : WireFrame) : List Token := w.bytes.map byteToken

/-- The points the frame stands for (R172). -/
def WireFrame.decodedPoints (w : WireFrame) : List Point :=
  let a0 := degrees w.startRaw
  let inc := increment w.len a0 (degrees w.endRaw)
  w.points.mapIdx fun i p => { distance := p.1, intensity := p.2, angle := pointAngle a0 inc i }

/-- The Frame item the frame stands for (R173). -/
def WireFrame.decoded (w : WireFrame) : Frame :=
  { header := Config.syncByte
    messageType := w.msgType
    len := w.len
    speed := w.speed
    startAngle := degrees w.startRaw
    points := w.decodedPoints
    endAngle := degrees w.endRaw
    timestamp := w.timestamp
    checksum := w.checksum }

end Sys2Proof.Machine
end

