-- ==== Sys2Proof/Safety.lean ====
section
/-! DEFINITION. What counts as a good state and as the end of a run (70_reset_and_hazards.md R275, 60_exceptions.md R244);
the invariant of the block; which registers hold a value the current frame has written (10_state.md R48); and what a
binary64 means as a number (00_scope.md R15), for statements about rounding. -/

namespace Sys2Proof.Machine

/-- A state that a good run may hold: FAULT = none and REFUSED = 0 (R244, R275). -/
def State.good (s : State) : Prop := s.fault = none ∧ s.refused = false

/-- The run has ended: the engine has no step and the consumer issues no more events (R275). -/
def State.runOver (s : State) : Prop := s.host = [] ∧ fetchToken s = none

/-- The item kinds one PULL may yield in a mode (R22). -/
def itemFits : Mode → Item → Prop
  | .single, .frame f => f.header = Config.syncByte ∧ f.points.length = f.len.toNat
  | .single, .err => True
  | .frames, .frame f => f.header = Config.syncByte ∧ f.points.length = f.len.toNat
  | .frames, .seqEnd => True
  | .points, .point _ => True
  | .points, .seqEnd => True
  | .rotations, .batch _ => True
  | .rotations, .seqEnd => True
  | .single, .point _ => False
  | .single, .batch _ => False
  | .single, .seqEnd => False
  | .frames, .point _ => False
  | .frames, .batch _ => False
  | .frames, .err => False
  | .points, .frame _ => False
  | .points, .batch _ => False
  | .points, .err => False
  | .rotations, .frame _ => False
  | .rotations, .point _ => False
  | .rotations, .err => False

/-- The invariant of the block, kept by every step. -/
structure State.Inv (s : State) : Prop where
  /-- REQ = 1 exactly in a reading phase (R25). -/
  reqReading : s.req = s.phase.reading
  /-- When OUT holds an item, REQ = 0 (R25). -/
  outReq : s.out ≠ none → s.req = false
  /-- OUT holds an item of a kind the mode yields, a Frame with header 0x54 and LEN points (R22, R43). -/
  outFits : ∀ it, s.out = some it → itemFits s.mode it
  /-- IDX = 0 from HUNT.SYNC to STA.H (R124). -/
  idxStart : s.phase ∈ [Phase.info, .spdL, .spdH, .staL, .staH] → s.idx = 0
  /-- IDX is below LEN in the payload phases (R140). -/
  idxBelow : s.phase ∈ [Phase.dstL, .dstH, .int] → s.idx.val < s.len.toNat
  /-- PBUF holds at most one frame's points and PB_NEXT does not pass its end (R39, R40). -/
  pbufSize : s.pbuf.length ≤ Config.lenMax ∧ s.pbNext ≤ s.pbuf.length
  /-- A decode runs only with PBUF exhausted (R194). -/
  pbufExhausted : s.phase.reading = true → s.pbNext = s.pbuf.length
  /-- PBUF and PB_NEXT are used only in POINTS mode (R39). -/
  pbufMode : s.mode ≠ .points → s.pbuf = [] ∧ s.pbNext = 0
  /-- PENDING and COVERED are used only in ROTATIONS mode (R41, R42). -/
  pendingMode : s.mode ≠ .rotations → s.pending = [] ∧ s.covered = State.covered0
  /-- A bounded PENDING_CAP is never exceeded (R216). -/
  pendingBound : ∀ cap, s.pendingCap = some cap → s.pending.length ≤ cap
  /-- Only a sequence mode ends, and then holds no points (R232). -/
  termMode : s.phase = .term → s.mode ≠ .single ∧ s.pbuf = [] ∧ s.pending = [] ∧ s.covered = State.covered0
  /-- ROT_TARGET is positive in ROTATIONS mode (R23). -/
  rotLegal : s.mode = .rotations → s.rotTarget ≠ 0#32
  /-- FAULT is set only by a bounded PENDING in ROTATIONS mode, and stops the engine where it was (R216, R243). -/
  faultWhere : s.fault ≠ none → s.mode = .rotations ∧ s.phase = .csum ∧ s.pendingCap ≠ none

/-- The low byte of a 16-bit field. -/
def lowByte (v : U16) : Byte := v.extractLsb' 0 8

/-- `s` and `t` hold the same values in every register the frame in progress has written by their phase (R48): before
its INFO byte neither MSG_TYPE nor LEN, between the two bytes of a field only its low byte, of the point registers only
those below IDX and the bytes read so far of point IDX, after the payload those below LEN. -/
structure State.AgreeOnWritten (s t : State) : Prop where
  info : s.phase ∈ [Phase.spdL, .spdH, .staL, .staH, .dstL, .dstH, .int, .endL, .endH, .tsL, .tsH, .csum] →
    s.msgType = t.msgType ∧ s.len = t.len
  speedLow : s.phase = .spdH → lowByte s.speed = lowByte t.speed
  speed : s.phase ∈ [Phase.staL, .staH, .dstL, .dstH, .int, .endL, .endH, .tsL, .tsH, .csum] → s.speed = t.speed
  startLow : s.phase = .staH → lowByte s.startRaw = lowByte t.startRaw
  start : s.phase ∈ [Phase.dstL, .dstH, .int, .endL, .endH, .tsL, .tsH, .csum] → s.startRaw = t.startRaw
  idx : s.phase ∈ [Phase.info, .spdL, .spdH, .staL, .staH, .dstL, .dstH, .int] → s.idx = t.idx
  pointsBelow : s.phase ∈ [Phase.dstL, .dstH, .int] → ∀ k : Fin 31, k < s.idx →
    s.ptDist.get k = t.ptDist.get k ∧ s.ptInt.get k = t.ptInt.get k
  distLow : s.phase = .dstH → lowByte s.curDist = lowByte t.curDist
  dist : s.phase = .int → s.curDist = t.curDist
  points : s.phase ∈ [Phase.endL, .endH, .tsL, .tsH, .csum] → ∀ k : Fin 31, k.val < s.len.toNat →
    s.ptDist.get k = t.ptDist.get k ∧ s.ptInt.get k = t.ptInt.get k
  endLow : s.phase = .endH → lowByte s.endRaw = lowByte t.endRaw
  endFull : s.phase ∈ [Phase.tsL, .tsH, .csum] → s.endRaw = t.endRaw
  tsLow : s.phase = .tsH → lowByte s.timestamp = lowByte t.timestamp
  ts : s.phase = .csum → s.timestamp = t.timestamp

/-- `s` and `t` differ at most in frame field registers, IDX and point registers, and agree on those the frame in
progress has written. -/
def State.SameButUnwritten (s t : State) : Prop :=
  t = { s with
        msgType := t.msgType, len := t.len, speed := t.speed, startRaw := t.startRaw, endRaw := t.endRaw
        timestamp := t.timestamp, checksum := t.checksum, idx := t.idx, ptDist := t.ptDist, ptInt := t.ptInt } ∧
    s.AgreeOnWritten t

/-- Two steps end alike: in related states, or with the same fault or refusal. -/
def SameOutcome : Host.Outcome State Fault Refusal → Host.Outcome State Fault Refusal → Prop
  | .next s, .next t => s.SameButUnwritten t
  | .fault r, .fault r' => r = r'
  | .refused r, .refused r' => r = r'
  | .next _, .fault _ => False
  | .next _, .refused _ => False
  | .fault _, .next _ => False
  | .fault _, .refused _ => False
  | .refused _, .next _ => False
  | .refused _, .fault _ => False

end Sys2Proof.Machine

namespace Sys2Proof.F64

/-- The rational number a finite binary64 stands for, read off its sign, exponent and fraction fields: the sign, times
`fraction * 2^-1074` for exponent field 0, else times `(2^52 + fraction) * 2^(exponent - 1075)`. -/
def val (x : F64) : ℚ :=
  let e := (x.bits.extractLsb' 52 11).toNat
  let f := (x.bits.extractLsb' 0 52).toNat
  (if x.bits.getLsbD 63 then -1 else 1) *
    (if e = 0 then (f : ℚ) * (2 : ℚ) ^ (-1074 : ℤ) else ((2 ^ 52 + f : ℕ) : ℚ) * (2 : ℚ) ^ ((e : ℤ) - 1075))

/-- `r` is the binary64 that rounding the exact number `x` once to nearest, ties to even, gives (R15): no finite
binary64 is nearer, and of two equally near ones the encoding of `r` is the even one. -/
def RoundsTo (x : ℚ) (r : F64) : Prop :=
  isFinite r = true ∧
    ∀ y : F64, isFinite y = true →
      |val r - x| ≤ |val y - x| ∧ (|val r - x| = |val y - x| → val y ≠ val r → r.bits.toNat % 2 = 0)

/-- The exact number lies below the bound from which rounding to nearest gives infinity. -/
def InRange (x : ℚ) : Prop := |x| < 2 ^ 1024 - 2 ^ 970

end Sys2Proof.F64
end

