-- ==== Sys2Proof/Certificates/Slice0/Obligations.lean ====
section
/-! DEFINITION. The statements for the provers. Each docstring names the rules of spec/ it formalises; a statement whose
docstring names a log entry rests on a choice of the model. -/

open Sys2Proof Sys2Proof.Machine

/-! ### Encoding -/

/-- R90, R91, R93: decoding the words of any well-formed instruction, with every operand at every value the encoding
admits, gives the instruction back. (The places of the configuration inputs in an event word are log entry 3.) -/
def Obligations.DecodeEncodeRoundTrip : Prop :=
  ∀ i : Instr, i.wf = true → decode (encode i) = .ok i

/-- R90, R91: a decode word that decodes is the encoding of the well-formed instruction it decodes to. -/
def Obligations.DecodedTokenEncodesBack : Prop :=
  ∀ (dw : BitVec 13) (i : Instr), decodeToken dw = .ok i → i.wf = true ∧ encode i = .token dw

/-- R90, R91: for every decode word with PHASE ≤ 0xD exactly one row of the opcode table is selected, and the decoder
gives that row's operation. -/
def Obligations.ExactlyOneRowPerReadingWord : Prop :=
  ∀ dw : BitVec 13, (dw.extractLsb' 9 4).toNat ≤ 0xD →
    ∃ r ∈ tokenTable, r.selected dw = true ∧ (∀ r' ∈ tokenTable, r'.selected dw = true → r' = r) ∧
      ∃ i, decodeToken dw = .ok i ∧ i.op = r.op

/-- R92: no token is decoded in IDLE and TERM: a decode word with PHASE ≥ 0xE decodes to nothing, and the engine has no
step in those phases whatever the channel holds. -/
def Obligations.NoTokenDecodedInIdleOrTerm : Prop :=
  (∀ dw : BitVec 13, 0xE ≤ (dw.extractLsb' 9 4).toNat → decodeToken dw = .error .noTokenInPhase) ∧
  ∀ s : State, s.phase = .idle ∨ s.phase = .term → fetchToken s = none

/-- R93: 0b01 is PULL, 0b10 TAKE, 0b11 RESET with the configuration inputs, 0b00 no event. -/
def Obligations.EventCodes : Prop :=
  ∀ h : HostWord,
    (h.ev = 0b00 → decodeEvent h = .error .noEvent) ∧
    (h.ev = 0b01 → decodeEvent h = .ok .pull) ∧
    (h.ev = 0b10 → decodeEvent h = .ok .take) ∧
    (h.ev = 0b11 → ∃ m, m.code = h.cfgMode ∧ decodeEvent h = .ok (.reset m h.cfgRotTarget))

/-- R91, R93: words written out from the spec's encodings decode to the operations they stand for, one of each family. -/
def Obligations.WrittenOutWordsDecode : Prop :=
  decodeToken 0b0000_0_01010100 = .ok .huntSync ∧
  decodeToken 0b0000_0_01010101 = .ok (.huntSkip 0x55) ∧
  decodeToken 0b0001_0_00101100 = .ok (.info 0x2C) ∧
  decodeToken 0b0110_0_11110011 = .ok (.dstL 0xF3) ∧
  decodeToken 0b1000_0_01010100 = .ok (.int 0x54) ∧
  decodeToken 0b1101_0_01011010 = .ok (.csum 0x5A) ∧
  decodeToken 0b0111_1_00000000 = .ok (.fail .dstH 0x00) ∧
  decodeEvent ⟨0b11, 0b11, 2⟩ = .ok (.reset .rotations 2)

/-! ### The step -/

/-- R26, R62, R90: where in_ready holds, the consumer has no event (an empty list of signals, or EV = 0b00 next) and the
oldest token's decode word decodes to `i`, the step is `i` in the state that has consumed the token (and the entry). That
the engine then has the step is the model's schedule (log entry 1, DESIGN CHOICE). -/
def Obligations.StepRunsDecodedToken : Prop :=
  ∀ (s : State) (i : Instr) (t : Token) (rest : List Token) (hs : List HostWord),
    s.req = true → s.phase.reading = true → s.fault = none → s.refused = false → s.chan = t :: rest →
    (s.host = [] ∧ hs = [] ∨ ∃ h, s.host = h :: hs ∧ h.ev = 0b00) →
    decodeToken (decodeWord s.phase t) = .ok i →
    step s = exec i { s with chan := rest, host := hs }

/-- R93: where the consumer's next signals decode to a host event, the step is that event, even where the engine has a
token to take. R239 leaves that order free: that the listed event goes first is the model's choice (log entry 1, DESIGN
CHOICE). -/
def Obligations.StepRunsHostEvent : Prop :=
  ∀ (s : State) (i : Instr) (h : HostWord) (hs : List HostWord),
    s.host = h :: hs → decodeEvent h = .ok i → step s = exec i { s with host := hs }

/-- R26, R62, R267, R275 (log entries 1, 7): where the engine has no step, an eventless entry of the consumer passes and
nothing else changes; with no entry left the run is over, stopped by the fault that says why. -/
def Obligations.StepWithoutEnabledAgent : Prop :=
  ∀ s : State, (s.req = true ∧ s.phase.reading = true ∧ s.fault = none ∧ s.refused = false → s.chan = []) →
    (∀ h hs, s.host = h :: hs → h.ev = 0b00 → step s = .next { s with host := hs }) ∧
    (s.host = [] → s.fault ≠ none ∨ s.refused = true → step s = .fault .halted) ∧
    (s.host = [] → s.fault = none → s.refused = false → s.phase.reading = true → step s = .fault .stalled) ∧
    (s.host = [] → s.fault = none → s.refused = false → s.phase.reading = false → step s = .fault .ended)

/-- R275: a step stops only when the run is over; no step refuses. -/
def Obligations.StepStopsOnlyAtRunEnd : Prop :=
  ∀ s : State, (∀ r, step s = .fault r → s.runOver) ∧ (∀ r, step s ≠ .refused r)

/-- Log entry 3: a token row's word, placed by `withFetchWord`, is what the very next step runs. -/
def Obligations.FetchWordRunsToken : Prop :=
  ∀ (s : State) (dw : BitVec 13) (i : Instr), decodeToken dw = .ok i →
    decodeTableWord 16 dw.toNat = some i ∧
    step (s.withFetchWord 16 dw.toNat) =
      exec i { s with phase := Phase.ofCode (dw.extractLsb' 9 4), req := true, fault := none, refused := false }

/-! ### The operations -/

/-- R110: HUNT.SYNC is the decode word 0x0054 alone; it writes IDX and PHASE and nothing else. -/
def Obligations.HuntSyncBeginsFrame : Prop :=
  (∀ dw : BitVec 13, decodeToken dw = .ok .huntSync ↔ dw &&& 0x1FFF = 0x0054) ∧
  ∀ s : State, exec .huntSync s = .next { s with idx := 0, phase := .info }

/-- R111: any other byte in HUNT is HUNT.SKIP; it writes no register and stays in HUNT. -/
def Obligations.HuntSkipDiscardsByte : Prop :=
  (∀ dw : BitVec 13, dw &&& 0x1F00 = 0x0000 → dw ≠ 0x0054 → decodeToken dw = .ok (.huntSkip (dw.extractLsb' 0 8))) ∧
  ∀ (b : Byte) (s : State), exec (.huntSkip b) s = .next { s with phase := .hunt }

/-- R120: INFO splits the byte into message type and length; every byte is accepted. -/
def Obligations.InfoUnpacksByte : Prop :=
  (∀ dw : BitVec 13, dw &&& 0x1F00 = 0x0200 → decodeToken dw = .ok (.info (dw.extractLsb' 0 8))) ∧
  ∀ (b : Byte) (s : State), ∃ t, exec (.info b) s = .next t ∧
    t.msgType.toNat = b.toNat / 32 ∧ t.len.toNat = b.toNat % 32 ∧
    t = { s with msgType := t.msgType, len := t.len, phase := .spdL }

/-- R121, R123, R150, R152: the low-byte operations. Each replaces its field's low byte, keeps the high byte, goes to the
high-byte phase, and changes nothing else. -/
def Obligations.LowBytesTaken : Prop :=
  (∀ dw : BitVec 13,
    (dw &&& 0x1F00 = 0x0400 → decodeToken dw = .ok (.spdL (dw.extractLsb' 0 8))) ∧
    (dw &&& 0x1F00 = 0x0800 → decodeToken dw = .ok (.staL (dw.extractLsb' 0 8))) ∧
    (dw &&& 0x1F00 = 0x1200 → decodeToken dw = .ok (.endL (dw.extractLsb' 0 8))) ∧
    (dw &&& 0x1F00 = 0x1600 → decodeToken dw = .ok (.tsL (dw.extractLsb' 0 8)))) ∧
  ∀ (b : Byte) (s : State),
    (∃ t, exec (.spdL b) s = .next t ∧ t.speed.toNat = s.speed.toNat / 256 * 256 + b.toNat ∧
      t = { s with speed := t.speed, phase := .spdH }) ∧
    (∃ t, exec (.staL b) s = .next t ∧ t.startRaw.toNat = s.startRaw.toNat / 256 * 256 + b.toNat ∧
      t = { s with startRaw := t.startRaw, phase := .staH }) ∧
    (∃ t, exec (.endL b) s = .next t ∧ t.endRaw.toNat = s.endRaw.toNat / 256 * 256 + b.toNat ∧
      t = { s with endRaw := t.endRaw, phase := .endH }) ∧
    (∃ t, exec (.tsL b) s = .next t ∧ t.timestamp.toNat = s.timestamp.toNat / 256 * 256 + b.toNat ∧
      t = { s with timestamp := t.timestamp, phase := .tsH })

/-- R122, R151, R153: the high-byte operations that go straight on. Each replaces its field's high byte, keeps the low
byte, and changes nothing else but PHASE. -/
def Obligations.HighBytesTaken : Prop :=
  (∀ dw : BitVec 13,
    (dw &&& 0x1F00 = 0x0600 → decodeToken dw = .ok (.spdH (dw.extractLsb' 0 8))) ∧
    (dw &&& 0x1F00 = 0x1400 → decodeToken dw = .ok (.endH (dw.extractLsb' 0 8))) ∧
    (dw &&& 0x1F00 = 0x1800 → decodeToken dw = .ok (.tsH (dw.extractLsb' 0 8)))) ∧
  ∀ (b : Byte) (s : State),
    (∃ t, exec (.spdH b) s = .next t ∧ t.speed.toNat = b.toNat * 256 + s.speed.toNat % 256 ∧
      t = { s with speed := t.speed, phase := .staL }) ∧
    (∃ t, exec (.endH b) s = .next t ∧ t.endRaw.toNat = b.toNat * 256 + s.endRaw.toNat % 256 ∧
      t = { s with endRaw := t.endRaw, phase := .tsL }) ∧
    (∃ t, exec (.tsH b) s = .next t ∧ t.timestamp.toNat = b.toNat * 256 + s.timestamp.toNat % 256 ∧
      t = { s with timestamp := t.timestamp, phase := .csum })

/-- R124: STA.H takes the high byte of the start angle and branches on LEN. -/
def Obligations.StartHighByteBranchesOnLen : Prop :=
  (∀ dw : BitVec 13, dw &&& 0x1F00 = 0x0A00 → decodeToken dw = .ok (.staH (dw.extractLsb' 0 8))) ∧
  ∀ (b : Byte) (s : State), ∃ t, exec (.staH b) s = .next t ∧
    t.startRaw.toNat = b.toNat * 256 + s.startRaw.toNat % 256 ∧
    (s.len = 0 → t = { s with startRaw := t.startRaw, phase := .endL }) ∧
    (s.len ≠ 0 → t = { s with startRaw := t.startRaw, phase := .dstL })

/-- R140, R141: DST.L and DST.H write one byte of PT_DIST[IDX]; every other point register and everything else but PHASE
is unchanged. -/
def Obligations.DistanceBytesTaken : Prop :=
  (∀ dw : BitVec 13,
    (dw &&& 0x1F00 = 0x0C00 → decodeToken dw = .ok (.dstL (dw.extractLsb' 0 8))) ∧
    (dw &&& 0x1F00 = 0x0E00 → decodeToken dw = .ok (.dstH (dw.extractLsb' 0 8)))) ∧
  ∀ (b : Byte) (s : State),
    (∃ t, exec (.dstL b) s = .next t ∧ t = { s with ptDist := t.ptDist, phase := .dstH } ∧
      (t.ptDist.get s.idx).toNat = (s.ptDist.get s.idx).toNat / 256 * 256 + b.toNat ∧
      ∀ k : Fin 31, k ≠ s.idx → t.ptDist.get k = s.ptDist.get k) ∧
    (∃ t, exec (.dstH b) s = .next t ∧ t = { s with ptDist := t.ptDist, phase := .int } ∧
      (t.ptDist.get s.idx).toNat = b.toNat * 256 + (s.ptDist.get s.idx).toNat % 256 ∧
      ∀ k : Fin 31, k ≠ s.idx → t.ptDist.get k = s.ptDist.get k)

/-- R142: INT writes PT_INT[IDX], then loops with IDX + 1, which does not wrap, or leaves the payload with IDX kept. -/
def Obligations.IntensityTakenAndLooped : Prop :=
  (∀ dw : BitVec 13, dw &&& 0x1F00 = 0x1000 → decodeToken dw = .ok (.int (dw.extractLsb' 0 8))) ∧
  ∀ (b : Byte) (s : State), ∃ t, exec (.int b) s = .next t ∧
    t.ptInt.get s.idx = b ∧ (∀ k : Fin 31, k ≠ s.idx → t.ptInt.get k = s.ptInt.get k) ∧
    (s.idx.val + 1 < s.len.toNat →
      t.idx.val = s.idx.val + 1 ∧ t = { s with ptInt := t.ptInt, idx := t.idx, phase := .dstL }) ∧
    (s.len.toNat ≤ s.idx.val + 1 → t = { s with ptInt := t.ptInt, phase := .endL })

/-- R154, R170 to R174, R192, R193: CSUM in SINGLE and FRAMES mode stores the byte and delivers the Frame whose fields
are the registers', whose angles are degrees and whose LEN points are interpolated in wire order. -/
def Obligations.ChecksumDeliversFrame : Prop :=
  ∀ (b : Byte) (s : State), s.mode = .single ∨ s.mode = .frames →
    ∃ f : Frame,
      exec (.csum b) s = .next { s with checksum := b, out := some (.frame f), req := false, phase := .idle } ∧
      f.header = 0x54 ∧ f.messageType = s.msgType ∧ f.len = s.len ∧ f.speed = s.speed ∧
      f.timestamp = s.timestamp ∧ f.checksum = b ∧
      f.startAngle = F64.div (F64.ofNat s.startRaw.toNat) (F64.ofNat 100) ∧
      f.endAngle = F64.div (F64.ofNat s.endRaw.toNat) (F64.ofNat 100) ∧
      f.points.length = s.len.toNat ∧
      ∀ k : Fin 31, k.val < s.len.toNat → ∃ p, f.points[k.val]? = some p ∧
        p.distance = s.ptDist.get k ∧ p.intensity = s.ptInt.get k ∧
        (s.len.toNat = 1 → p.angle = F64.add f.startAngle (F64.mul (F64.ofNat 0) (F64.ofNat k.val))) ∧
        (2 ≤ s.len.toNat → p.angle = F64.add f.startAngle
          (F64.mul (F64.div (F64.sub f.endAngle f.startAngle) (F64.ofNat (s.len.toNat - 1))) (F64.ofNat k.val)))

/-- R154, R174, R194: CSUM in POINTS mode puts the frame's points in PBUF and delivers the first; a frame with LEN = 0
leaves the PULL outstanding and the engine in HUNT. The points are those of the frame in the registers (R172). -/
def Obligations.ChecksumDeliversFirstPoint : Prop :=
  ∀ (b : Byte) (s : State), s.mode = .points →
    (s.len = 0 → exec (.csum b) s = .next { s with checksum := b, pbuf := [], pbNext := 0, phase := .hunt }) ∧
    (s.len ≠ 0 → ∃ p ps, framePoints s = p :: ps ∧ (p :: ps).length = s.len.toNat ∧
      exec (.csum b) s = .next
        { s with checksum := b, pbuf := p :: ps, pbNext := 1, out := some (.point p), req := false, phase := .idle })

/-- R154, R174, R211 to R213, R216: CSUM in ROTATIONS mode. If the frame's points do not fit a bounded PENDING_CAP, FAULT
is PendingOverflow and nothing is appended or delivered. Else the points and the sweep are added, and the batch of all
pending points is emitted, with the overshoot discarded, exactly when the new sum reaches ROT_TARGET * 360.0. -/
def Obligations.ChecksumAggregatesRotation : Prop :=
  ∀ (b : Byte) (s : State), s.mode = .rotations →
    let a0 := F64.div (F64.ofNat s.startRaw.toNat) (F64.ofNat 100)
    let a1 := F64.div (F64.ofNat s.endRaw.toNat) (F64.ofNat 100)
    let sw := if F64.ge a1 a0 then F64.sub a1 a0 else F64.add (F64.sub (F64.ofNat 360) a0) a1
    let sum := F64.add s.covered sw
    let target := F64.mul (F64.ofNat s.rotTarget.toNat) (F64.ofNat 360)
    ((∃ cap, s.pendingCap = some cap ∧ cap < s.pending.length + s.len.toNat) →
      exec (.csum b) s = .next { s with checksum := b, fault := some .pendingOverflow }) ∧
    ((∀ cap, s.pendingCap = some cap → s.pending.length + s.len.toNat ≤ cap) →
      (F64.ge sum target = true → exec (.csum b) s = .next
        { s with checksum := b, out := some (.batch (s.pending ++ framePoints s)), req := false
                 pending := [], covered := ⟨0⟩, phase := .idle }) ∧
      (F64.ge sum target = false → exec (.csum b) s = .next
        { s with checksum := b, pending := s.pending ++ framePoints s, covered := sum, phase := .hunt }))

/-- R232, R233, R234: FAIL in every reading phase. SINGLE: Err, back to IDLE, everything else kept. The sequence modes:
End, TERM, and PENDING, COVERED, PBUF and PB_NEXT dropped. The BYTE bits have no effect. -/
def Obligations.FailEndsDecode : Prop :=
  (∀ dw : BitVec 13, (dw.extractLsb' 9 4).toNat ≤ 0xD → dw &&& 0x0100 = 0x0100 →
    decodeToken dw = .ok (.fail (Phase.ofCode (dw.extractLsb' 9 4)) (dw.extractLsb' 0 8))) ∧
  ∀ (p : Phase) (b : Byte) (s : State),
    (s.mode = .single → exec (.fail p b) s = .next { s with out := some .err, req := false, phase := .idle }) ∧
    (s.mode ≠ .single → exec (.fail p b) s = .next
      { s with pending := [], covered := ⟨0⟩, pbuf := [], pbNext := 0
               out := some .seqEnd, req := false, phase := .term })

/-- R190: PULL with its precondition met: End in TERM, else in POINTS mode the next point of PBUF, else the start of a
decode; only the registers named change, and no token is read. Outside its precondition it is refused. -/
def Obligations.PullAnswersOrStartsDecode : Prop :=
  ∀ s : State,
    (s.req = false ∧ s.out = none ∧ s.fault = none ∧ s.refused = false →
      (s.phase = .term → exec .pull s = .next { s with out := some .seqEnd, req := false }) ∧
      (s.phase ≠ .term → s.mode = .points → ∀ p, s.pbuf[s.pbNext]? = some p →
        exec .pull s = .next { s with out := some (.point p), req := false, pbNext := s.pbNext + 1 }) ∧
      (s.phase ≠ .term → (s.mode = .points → s.pbuf.length ≤ s.pbNext) →
        exec .pull s = .next { s with req := true, phase := .hunt })) ∧
    (¬(s.req = false ∧ s.out = none ∧ s.fault = none ∧ s.refused = false) →
      exec .pull s = .next { s with refused := true })

/-- R195: TAKE with its precondition met hands the item to the consumer and empties OUT; PHASE and all else is kept.
Outside its precondition it is refused. -/
def Obligations.TakeHandsItemOver : Prop :=
  ∀ s : State,
    (∀ it, s.out = some it → s.fault = none → s.refused = false →
      exec .take s = .next { s with out := none, taken := s.taken ++ [it] }) ∧
    (¬(s.out ≠ none ∧ s.fault = none ∧ s.refused = false) → exec .take s = .next { s with refused := true })

/-- R242: a host event outside its precondition sets REFUSED and changes nothing else; all three are accepted inside it
(a PULL or TAKE in a state with FAULT or REFUSED set is outside it, R190, R195, R244). -/
def Obligations.RefusedEventsSetRefused : Prop :=
  ∀ s : State,
    (s.req = true ∨ s.out ≠ none ∨ s.fault ≠ none ∨ s.refused = true →
      exec .pull s = .next { s with refused := true }) ∧
    (s.out = none ∨ s.fault ≠ none ∨ s.refused = true → exec .take s = .next { s with refused := true }) ∧
    (exec (.reset .rotations 0) s = .next { s with refused := true })

/-- R260: RESET in any state. ROTATIONS with a target of 0 is refused and changes nothing else. Otherwise MODE and
ROT_TARGET are loaded from the configuration inputs, every other register takes its reset value, and the transport's
tokens are not touched. That the consumer's coming events (log entry 1), PENDING_CAP (log entry 4) and the items taken (log
entry 5) are not touched is the model's choice (DESIGN CHOICE). -/
def Obligations.ResetLoadsConfiguration : Prop :=
  ∀ (m : Mode) (rot : BitVec 32) (s : State),
    (m = .rotations ∧ rot = 0 → exec (.reset m rot) s = .next { s with refused := true }) ∧
    (¬(m = .rotations ∧ rot = 0) → ∃ t, exec (.reset m rot) s = .next t ∧
      t.mode = m ∧ t.rotTarget = rot ∧ t.phase = .idle ∧ t.req = false ∧ t.out = none ∧
      t.msgType = 0 ∧ t.len = 0 ∧ t.speed = 0 ∧ t.startRaw = 0 ∧ t.endRaw = 0 ∧ t.timestamp = 0 ∧ t.checksum = 0 ∧
      t.idx = 0 ∧ (∀ k : Fin 31, t.ptDist.get k = 0 ∧ t.ptInt.get k = 0) ∧
      t.pbuf = [] ∧ t.pbNext = 0 ∧ t.pending = [] ∧ t.covered = ⟨0⟩ ∧ t.fault = none ∧ t.refused = false ∧
      t.pendingCap = s.pendingCap ∧ t.chan = s.chan ∧ t.host = s.host ∧ t.taken = s.taken)

/-- R62, R191 (the kinds' codes are 92_eei_decisions.md D27): the output signals. `out_valid` is OUT ≠ none, a TAKE is
accepted exactly with `out_valid` and neither FAULT nor REFUSED set, `out_kind` tells the five items apart, and
`in_ready` implies `out_valid` = 0 in every state that has the invariant. -/
def Obligations.OutputSignals : Prop :=
  ∀ s : State,
    (s.outValid = true ↔ s.out ≠ none) ∧
    (exec .take s ≠ .next { s with refused := true } → s.outValid = true ∧ s.good) ∧
    (∀ f, s.out = some (.frame f) → s.outKind = some 0) ∧ (∀ p, s.out = some (.point p) → s.outKind = some 1) ∧
    (∀ ps, s.out = some (.batch ps) → s.outKind = some 2) ∧ (s.out = some .seqEnd → s.outKind = some 3) ∧
    (s.out = none → s.outKind = none) ∧ (s.out = some .err → s.outKind = some 4) ∧
    (s.Inv → s.inReady = true → s.outValid = false)

/-! ### The whole machine -/

/-- The invariant of the block (R22, R23, R25, R39 to R43, R124, R140, R194, R216, R232, R243) is kept by every step,
from every state that has it. -/
def Obligations.InvariantKeptByStep : Prop :=
  ∀ s s' : State, s.Inv → step s = .next s' → s'.Inv

/-- The invariant holds after reset (the reset mode and target are log entry 8). -/
def Obligations.InvariantAtReset : Prop :=
  State.reset.Inv

/-- R260: a RESET that is not refused establishes the invariant from any state whatever. -/
def Obligations.ResetEstablishesInvariant : Prop :=
  ∀ (m : Mode) (rot : BitVec 32) (s : State), (m = .rotations → rot ≠ 0) →
    ∃ t, exec (.reset m rot) s = .next t ∧ t.Inv

/-- R21: no step but one that runs a RESET changes MODE or ROT_TARGET; that RESET loads them from its inputs. That
PENDING_CAP is a field no step changes is the model's choice (log entry 4, DESIGN CHOICE). -/
def Obligations.ConfigurationChangesOnlyByReset : Prop :=
  ∀ s s' : State, step s = .next s' →
    s'.pendingCap = s.pendingCap ∧
    ((s'.mode = s.mode ∧ s'.rotTarget = s.rotTarget) ∨
      ∃ h hs, s.host = h :: hs ∧ h.ev = 0b11 ∧ s'.mode.code = h.cfgMode ∧ s'.rotTarget = h.cfgRotTarget)

/-- R244: once FAULT or REFUSED is set, no step changes anything but REFUSED (to 1) and the consumer's list of signals,
until a RESET that is not refused clears both. -/
def Obligations.FaultAndRefusedAreSticky : Prop :=
  ∀ s s' : State, s.fault ≠ none ∨ s.refused = true → step s = .next s' →
    (∃ h hs, s.host = h :: hs ∧ h.ev = 0b11 ∧ ¬(h.cfgMode = 0b11 ∧ h.cfgRotTarget = 0) ∧ s'.good) ∨
    (s' = { s with refused := s'.refused, host := s'.host } ∧ (s.refused = true → s'.refused = true))

/-- R197, R237: TERM is left only by a RESET that is not refused; in TERM no token is read and OUT is filled with nothing
but End; and every PULL within its precondition is answered at once with End. -/
def Obligations.TermIsAbsorbing : Prop :=
  ∀ s s' : State, s.phase = .term → step s = .next s' →
    ((∃ h hs, s.host = h :: hs ∧ h.ev = 0b11 ∧ s'.phase = .idle) ∨
      (s'.phase = .term ∧ s'.chan = s.chan ∧ (s'.out = s.out ∨ s'.out = none ∨ s'.out = some .seqEnd))) ∧
    (∀ h hs, s.host = h :: hs → h.ev = 0b01 → s.req = false → s.out = none → s.good → s'.out = some .seqEnd)

/-- R62, R63: a step consumes at most one token, the oldest, and only with in_ready; the rest of the channel keeps its
order and nothing is put back; and where in_ready holds, a token is offered and the consumer has no event, the step
consumes it and goes on. -/
def Obligations.TokensConsumedOnceInOrder : Prop :=
  (∀ s s' : State, step s = .next s' →
    s'.chan = s.chan ∨
    (s.req = true ∧ s.phase.reading = true ∧ s.fault = none ∧ s.refused = false ∧ ∃ t, s.chan = t :: s'.chan)) ∧
  ∀ (s : State) (t : Token) (rest : List Token),
    s.req = true → s.phase.reading = true → s.fault = none → s.refused = false → s.chan = t :: rest →
    (∀ h hs, s.host = h :: hs → h.ev = 0b00) → ∃ s', step s = .next s' ∧ s'.chan = rest

/-- R72: no token is consumed while an item waits in OUT, nor by any step from a state in which no PULL is outstanding. -/
def Obligations.NoReadWithoutOutstandingPull : Prop :=
  ∀ s s' : State, s.Inv → s.out ≠ none ∨ s.phase = .idle ∨ s.phase = .term → step s = .next s' → s'.chan = s.chan

/-- R28, R191: an item in OUT is never overwritten: a step keeps it, hands it to the consumer by TAKE, or is a RESET. -/
def Obligations.ItemNeverOverwritten : Prop :=
  ∀ (s s' : State) (it : Item), s.Inv → s.out = some it → step s = .next s' →
    (s'.out = some it ∧ s'.taken = s.taken) ∨ (s'.out = none ∧ s'.taken = s.taken ++ [it]) ∨
      (s'.out = none ∧ s'.taken = s.taken ∧ ∃ h hs, s.host = h :: hs ∧ h.ev = 0b11)

/-- R195, R275: what the consumer holds grows only by a TAKE of the item in OUT, at its end. -/
def Obligations.TakenGrowsOnlyByTake : Prop :=
  ∀ s s' : State, step s = .next s' →
    s'.taken = s.taken ∨
    ∃ it h hs, s.out = some it ∧ s.host = h :: hs ∧ h.ev = 0b10 ∧ s'.out = none ∧ s'.taken = s.taken ++ [it]

/-- R67, R154: CSUM is the only token operation that delivers a Frame, a Batch or a frame's first Point, so nothing of a
frame is visible before its checksum byte has been consumed; a later Point comes by PULL out of PBUF. -/
def Obligations.DeliveredOnlyAfterChecksum : Prop :=
  ∀ (s s' : State) (it : Item), s.Inv → s.out = none → step s = .next s' → s'.out = some it →
    it = .err ∨ it = .seqEnd ∨
    (s.phase = .csum ∧ ∃ t, s.chan = t :: s'.chan ∧ t.fail = false) ∨
    (∃ p, it = .point p ∧ s.mode = .points ∧ s.phase = .idle ∧ s.pbuf[s.pbNext]? = some p ∧ s'.chan = s.chan)

/-- R87, R230, R231, R233: Err appears only in SINGLE mode, in a reading phase, by the consumption of a Fail token; no byte
raises an error. -/
def Obligations.ErrOnlyFromFailToken : Prop :=
  ∀ s s' : State, s.out = none → step s = .next s' → s'.out = some .err →
    s.mode = .single ∧ s.phase.reading = true ∧ ∃ t, s.chan = t :: s'.chan ∧ t.fail = true

/-- R197, R234: End appears only in a sequence mode, by the consumption of a Fail token or by a PULL after the sequence
has ended. -/
def Obligations.EndOnlyFromFailureOrTerm : Prop :=
  ∀ s s' : State, s.Inv → s.out = none → step s = .next s' → s'.out = some .seqEnd →
    s.mode ≠ .single ∧ s'.phase = .term ∧
    ((s.phase = .term ∧ s'.chan = s.chan) ∨ (s.phase.reading = true ∧ ∃ t, s.chan = t :: s'.chan ∧ t.fail = true))

/-- R243, R216: FAULT is raised only by a completed frame in ROTATIONS mode whose points exceed a bounded PENDING_CAP, and
that step delivers and appends nothing. -/
def Obligations.OverflowOnlyWhenBounded : Prop :=
  ∀ s s' : State, s.fault = none → step s = .next s' → s'.fault ≠ none →
    s.mode = .rotations ∧ s.phase = .csum ∧
    (∃ cap, s.pendingCap = some cap ∧ cap < s.pending.length + s.len.toNat) ∧
    s'.out = s.out ∧ s'.pending = s.pending ∧ s'.covered = s.covered ∧ s'.taken = s.taken

/-- R48: the contents of a frame field register, IDX or a point register that the frame in progress has not written are
never observable: two states that differ in nothing else step to states that differ in nothing else, or stop alike. -/
def Obligations.UnwrittenRegistersUnobservable : Prop :=
  ∀ s t : State, s.Inv → s.SameButUnwritten t → SameOutcome (step s) (step t)

/-! ### Whole frames -/

/-- R80, R81, R88, R112, R113, R143, R172 to R174, R274: from HUNT, any bytes other than 0x54 and then a well-formed frame
of up to 31 points are decoded in one step per skipped byte and 11 + 3 * LEN more, whatever MODE is and whatever
follows; the outcome is the dispatch by MODE of the Frame item the bytes stand for, with the frame's values in the field
registers. What IDX, PT_DIST and PT_INT hold afterwards is not said; every other register and list is. The consumer drives
no event (`s.host = []`). -/
def Obligations.FrameDecodedFromHunt : Prop :=
  ∀ (w : WireFrame) (junk : List Byte) (rest : List Token) (s : State),
    w.points.length ≤ 31 → (∀ b ∈ junk, b ≠ 0x54) →
    s.phase = .hunt → s.req = true → s.fault = none → s.refused = false → s.host = [] →
    s.chan = junk.map byteToken ++ w.tokens ++ rest →
    w.tokens.length = 11 + 3 * w.points.length ∧
    ∃ t : State, Host.Core.run core (junk.length + (11 + 3 * w.points.length)) s = .next t ∧
      t = { dispatchFrame w.decoded { s with chan := rest, phase := .csum } with
            msgType := w.msgType, len := w.len, speed := w.speed, startRaw := w.startRaw, endRaw := w.endRaw
            timestamp := w.timestamp, checksum := w.checksum
            idx := t.idx, ptDist := t.ptDist, ptInt := t.ptInt }

/-- R67, R68, R199, R232, R236: a frame cut short by a Fail token, at any place, delivers nothing of itself: the PULL is
answered with Err in SINGLE mode and with End in the sequence modes, and the items taken before stay taken (log entry 5).
The consumer drives no event meanwhile (log entry 1). -/
def Obligations.TruncatedFrameDeliversNothing : Prop :=
  ∀ (w : WireFrame) (n : Nat) (b : Byte) (rest : List Token) (s : State),
    w.points.length ≤ 31 → n < w.tokens.length →
    s.phase = .hunt → s.req = true → s.fault = none → s.refused = false → s.host = [] →
    s.chan = w.tokens.take n ++ { fail := true, byte := b } :: rest →
    ∃ t : State, Host.Core.run core (n + 1) s = .next t ∧ t.chan = rest ∧ t.req = false ∧ t.taken = s.taken ∧
      (s.mode = .single → t.out = some .err ∧ t.phase = .idle) ∧
      (s.mode ≠ .single → t.out = some .seqEnd ∧ t.phase = .term ∧ t.pending = [] ∧ t.covered = ⟨0⟩ ∧ t.pbuf = [])

/-- R71, R190, R194, R196: in POINTS mode a consumer that pulls and takes obtains exactly the points of the frame, in wire
order, one a PULL; only the first PULL reads tokens. The order of the consumer's events and the engine's steps is one
schedule of log entry 1, and the items obtained are the list of log entry 5 (both DESIGN CHOICE). -/
def Obligations.PointsPulledInWireOrder : Prop :=
  ∀ (w : WireFrame) (rest : List Token) (s : State),
    1 ≤ w.points.length → w.points.length ≤ 31 →
    s.mode = .points → s.phase = .idle → s.req = false → s.out = none → s.fault = none → s.refused = false →
    s.pbuf.length ≤ s.pbNext → s.chan = w.tokens ++ rest →
    s.host = plainEvent 0b01 :: List.replicate (11 + 3 * w.points.length) (plainEvent 0b00) ++ [plainEvent 0b10] ++
      (List.replicate (w.points.length - 1) [plainEvent 0b01, plainEvent 0b10]).flatten →
    ∃ t : State, Host.Core.run core s.host.length s = .next t ∧ t.taken = s.taken ++ w.decodedPoints.map Item.point ∧
      t.chan = rest ∧ t.host = [] ∧ t.out = none ∧ t.req = false ∧ t.phase = .idle ∧ t.pbNext = t.pbuf.length

/-! ### Binary64 -/

/-- R15 (general knowledge in the spec; log entry 10, PRESUMED): addition and subtraction of finite values are rounded once
to nearest, ties to even. The sign of a zero is `ZeroResultSigns`; infinite and NaN operands and overflow are
`NonFiniteResults`. -/
def Obligations.AddSubCorrectlyRounded : Prop :=
  ∀ x y : F64, F64.isFinite x = true → F64.isFinite y = true →
    (F64.InRange (F64.val x + F64.val y) → F64.RoundsTo (F64.val x + F64.val y) (F64.add x y)) ∧
    (F64.InRange (F64.val x - F64.val y) → F64.RoundsTo (F64.val x - F64.val y) (F64.sub x y))

/-- R15 (log entry 10, PRESUMED): multiplication of finite values is rounded once to nearest, ties to even. The sign of a
zero is `ZeroResultSigns`; infinite and NaN operands and overflow are `NonFiniteResults`. -/
def Obligations.MulCorrectlyRounded : Prop :=
  ∀ x y : F64, F64.isFinite x = true → F64.isFinite y = true → F64.InRange (F64.val x * F64.val y) →
    F64.RoundsTo (F64.val x * F64.val y) (F64.mul x y)

/-- R15 (log entry 10, PRESUMED): division of a finite value by a finite nonzero value is rounded once to nearest, ties to
even. The sign of a zero is `ZeroResultSigns`; a zero divisor, infinite and NaN operands and overflow are
`NonFiniteResults`. -/
def Obligations.DivCorrectlyRounded : Prop :=
  ∀ x y : F64, F64.isFinite x = true → F64.isFinite y = true → F64.val y ≠ 0 →
    F64.InRange (F64.val x / F64.val y) → F64.RoundsTo (F64.val x / F64.val y) (F64.div x y)

/-- R15 (log entry 10, PRESUMED): the signs that `RoundsTo` leaves open. An exact zero sum or difference of finite values is
+0.0 unless both terms are negative zeros; a product or quotient, a zero one too, is negative exactly when the operands'
signs differ. -/
def Obligations.ZeroResultSigns : Prop :=
  ∀ x y : F64, F64.isFinite x = true → F64.isFinite y = true →
    (F64.val x + F64.val y = 0 → F64.add x y = F64.pack (F64.neg? x && F64.neg? y) 0) ∧
    (F64.val x - F64.val y = 0 → F64.sub x y = F64.pack (F64.neg? x && !F64.neg? y) 0) ∧
    F64.neg? (F64.mul x y) = (F64.neg? x != F64.neg? y) ∧
    (F64.val y ≠ 0 → F64.neg? (F64.div x y) = (F64.neg? x != F64.neg? y))

/-- R15 (log entries 6, 10, PRESUMED): the operands and results that are not finite. A NaN operand gives a NaN; an exact
result of finite operands at or above the overflow bound, and a nonzero value divided by zero, give infinity of the
result's sign; infinite operands give infinity, zero or, for the invalid operations, a NaN. No run reaches these (R177). -/
def Obligations.NonFiniteResults : Prop :=
  ∀ x y : F64,
    (F64.isNaN x = true ∨ F64.isNaN y = true → F64.isNaN (F64.add x y) = true ∧ F64.isNaN (F64.sub x y) = true ∧
      F64.isNaN (F64.mul x y) = true ∧ F64.isNaN (F64.div x y) = true) ∧
    (F64.isFinite x = true → F64.isFinite y = true →
      (¬F64.InRange (F64.val x + F64.val y) →
        F64.add x y = F64.pack (decide (F64.val x + F64.val y < 0)) F64.infMag) ∧
      (¬F64.InRange (F64.val x - F64.val y) →
        F64.sub x y = F64.pack (decide (F64.val x - F64.val y < 0)) F64.infMag) ∧
      (¬F64.InRange (F64.val x * F64.val y) → F64.mul x y = F64.pack (F64.neg? x != F64.neg? y) F64.infMag) ∧
      (F64.val y ≠ 0 → ¬F64.InRange (F64.val x / F64.val y) →
        F64.div x y = F64.pack (F64.neg? x != F64.neg? y) F64.infMag) ∧
      (F64.val y = 0 → F64.val x ≠ 0 → F64.div x y = F64.pack (F64.neg? x != F64.neg? y) F64.infMag) ∧
      (F64.val y = 0 → F64.val x = 0 → F64.isNaN (F64.div x y) = true)) ∧
    (F64.isInf x = true → F64.isFinite y = true →
      F64.add x y = x ∧ F64.add y x = x ∧ F64.sub x y = x ∧ F64.sub y x = F64.negate x ∧
      (F64.val y ≠ 0 → F64.mul x y = F64.pack (F64.neg? x != F64.neg? y) F64.infMag ∧ F64.mul y x = F64.mul x y) ∧
      (F64.val y = 0 → F64.isNaN (F64.mul x y) = true ∧ F64.isNaN (F64.mul y x) = true) ∧
      F64.div x y = F64.pack (F64.neg? x != F64.neg? y) F64.infMag ∧
      F64.div y x = F64.pack (F64.neg? x != F64.neg? y) 0) ∧
    (F64.isInf x = true → F64.isInf y = true →
      F64.mul x y = F64.pack (F64.neg? x != F64.neg? y) F64.infMag ∧ F64.isNaN (F64.div x y) = true ∧
      (F64.neg? x = F64.neg? y → F64.add x y = x ∧ F64.isNaN (F64.sub x y) = true) ∧
      (F64.neg? x ≠ F64.neg? y → F64.isNaN (F64.add x y) = true ∧ F64.sub x y = x))

/-- R15: `f64(n)` is exact below 2^53. -/
def Obligations.IntegerConversionExact : Prop :=
  ∀ n : Nat, n < 2 ^ 53 → F64.isFinite (F64.ofNat n) = true ∧ F64.val (F64.ofNat n) = n

/-- R15: `x >=. y` compares the numbers, and is false when either is NaN. -/
def Obligations.ComparisonIsNumeric : Prop :=
  ∀ x y : F64,
    (F64.isFinite x = true → F64.isFinite y = true → (F64.ge x y = true ↔ F64.val y ≤ F64.val x)) ∧
    (F64.isNaN x = true ∨ F64.isNaN y = true → F64.ge x y = false)

/-- R170: the conversion to degrees is the nearest binary64 to raw/100, and strictly increasing in raw, so comparing the
angles compares the raw values. -/
def Obligations.DegreesNearestAndMonotone : Prop :=
  (∀ raw : U16, F64.RoundsTo ((raw.toNat : ℚ) / 100) (degrees raw)) ∧
  ∀ a b : U16, (F64.ge (degrees b) (degrees a) = true ↔ a.toNat ≤ b.toNat)

/-- R177: no angle, increment or point angle computed at completion is infinite or NaN. -/
def Obligations.CompletionAnglesFinite : Prop :=
  ∀ (a0 a1 : U16) (len : BitVec 5) (i : Nat), i < len.toNat →
    F64.isFinite (degrees a0) = true ∧ F64.isFinite (degrees a1) = true ∧
    F64.isFinite (increment len (degrees a0) (degrees a1)) = true ∧
    F64.isFinite (pointAngle (degrees a0) (increment len (degrees a0) (degrees a1)) i) = true

/-- R171, R172, R176: the first point's angle is the start angle exactly, bit for bit, for every LEN; with LEN = 1 it is
the only point, since the increment is +0.0. -/
def Obligations.FirstPointAtStartAngle : Prop :=
  ∀ (a0 a1 : U16) (len : BitVec 5),
    pointAngle (degrees a0) (increment len (degrees a0) (degrees a1)) 0 = degrees a0 ∧
    (len.toNat ≤ 1 → increment len (degrees a0) (degrees a1) = ⟨0⟩)

/-- R210: the sweep takes the direct branch exactly when END_RAW ≥ START_RAW, and the wrap branch otherwise; equal angles
sweep +0.0; in the direct branch the sweep is the nearest binary64 to the difference of the two angles. -/
def Obligations.SweepBranchesOnRawAngles : Prop :=
  ∀ a0 a1 : U16,
    (a0.toNat ≤ a1.toNat → sweep (degrees a0) (degrees a1) = F64.sub (degrees a1) (degrees a0) ∧
      F64.RoundsTo (F64.val (degrees a1) - F64.val (degrees a0)) (sweep (degrees a0) (degrees a1))) ∧
    (a1.toNat < a0.toNat → sweep (degrees a0) (degrees a1) =
      F64.add (F64.sub (F64.ofNat 360) (degrees a0)) (degrees a1)) ∧
    sweep (degrees a0) (degrees a0) = ⟨0⟩

/-- R212: the batch threshold is exactly ROT_TARGET * 360, for every ROT_TARGET. -/
def Obligations.ThresholdExact : Prop :=
  ∀ rot : BitVec 32, F64.isFinite (threshold rot) = true ∧ F64.val (threshold rot) = (rot.toNat : ℚ) * 360

/-- R42, R177, R210, R211: COVERED, once finite, is finite after every step. -/
def Obligations.CoveredStaysFinite : Prop :=
  ∀ s s' : State, F64.isFinite s.covered = true → step s = .next s' → F64.isFinite s'.covered = true
end

