-- ==== Sys2Proof/Laws/State.lean ====
section
/-! SUPPORT. One lemma per field and update of State, each true by rfl, so that no proof unfolds a record update. -/

namespace Sys2Proof.Machine.State

section
variable (s : State) (p : Phase)
@[simp] theorem setPhase_mode : (s.setPhase p).mode = s.mode := rfl
@[simp] theorem setPhase_rotTarget : (s.setPhase p).rotTarget = s.rotTarget := rfl
@[simp] theorem setPhase_phase : (s.setPhase p).phase = p := rfl
@[simp] theorem setPhase_req : (s.setPhase p).req = s.req := rfl
@[simp] theorem setPhase_out : (s.setPhase p).out = s.out := rfl
@[simp] theorem setPhase_msgType : (s.setPhase p).msgType = s.msgType := rfl
@[simp] theorem setPhase_len : (s.setPhase p).len = s.len := rfl
@[simp] theorem setPhase_speed : (s.setPhase p).speed = s.speed := rfl
@[simp] theorem setPhase_startRaw : (s.setPhase p).startRaw = s.startRaw := rfl
@[simp] theorem setPhase_endRaw : (s.setPhase p).endRaw = s.endRaw := rfl
@[simp] theorem setPhase_timestamp : (s.setPhase p).timestamp = s.timestamp := rfl
@[simp] theorem setPhase_checksum : (s.setPhase p).checksum = s.checksum := rfl
@[simp] theorem setPhase_idx : (s.setPhase p).idx = s.idx := rfl
@[simp] theorem setPhase_ptDist : (s.setPhase p).ptDist = s.ptDist := rfl
@[simp] theorem setPhase_ptInt : (s.setPhase p).ptInt = s.ptInt := rfl
@[simp] theorem setPhase_pbuf : (s.setPhase p).pbuf = s.pbuf := rfl
@[simp] theorem setPhase_pbNext : (s.setPhase p).pbNext = s.pbNext := rfl
@[simp] theorem setPhase_pending : (s.setPhase p).pending = s.pending := rfl
@[simp] theorem setPhase_covered : (s.setPhase p).covered = s.covered := rfl
@[simp] theorem setPhase_fault : (s.setPhase p).fault = s.fault := rfl
@[simp] theorem setPhase_refused : (s.setPhase p).refused = s.refused := rfl
@[simp] theorem setPhase_pendingCap : (s.setPhase p).pendingCap = s.pendingCap := rfl
@[simp] theorem setPhase_chan : (s.setPhase p).chan = s.chan := rfl
@[simp] theorem setPhase_host : (s.setPhase p).host = s.host := rfl
@[simp] theorem setPhase_taken : (s.setPhase p).taken = s.taken := rfl
end

section
variable (s : State) (t : BitVec 3) (l : BitVec 5)
@[simp] theorem setInfo_mode : (s.setInfo t l).mode = s.mode := rfl
@[simp] theorem setInfo_rotTarget : (s.setInfo t l).rotTarget = s.rotTarget := rfl
@[simp] theorem setInfo_phase : (s.setInfo t l).phase = s.phase := rfl
@[simp] theorem setInfo_req : (s.setInfo t l).req = s.req := rfl
@[simp] theorem setInfo_out : (s.setInfo t l).out = s.out := rfl
@[simp] theorem setInfo_msgType : (s.setInfo t l).msgType = t := rfl
@[simp] theorem setInfo_len : (s.setInfo t l).len = l := rfl
@[simp] theorem setInfo_speed : (s.setInfo t l).speed = s.speed := rfl
@[simp] theorem setInfo_startRaw : (s.setInfo t l).startRaw = s.startRaw := rfl
@[simp] theorem setInfo_endRaw : (s.setInfo t l).endRaw = s.endRaw := rfl
@[simp] theorem setInfo_timestamp : (s.setInfo t l).timestamp = s.timestamp := rfl
@[simp] theorem setInfo_checksum : (s.setInfo t l).checksum = s.checksum := rfl
@[simp] theorem setInfo_idx : (s.setInfo t l).idx = s.idx := rfl
@[simp] theorem setInfo_ptDist : (s.setInfo t l).ptDist = s.ptDist := rfl
@[simp] theorem setInfo_ptInt : (s.setInfo t l).ptInt = s.ptInt := rfl
@[simp] theorem setInfo_pbuf : (s.setInfo t l).pbuf = s.pbuf := rfl
@[simp] theorem setInfo_pbNext : (s.setInfo t l).pbNext = s.pbNext := rfl
@[simp] theorem setInfo_pending : (s.setInfo t l).pending = s.pending := rfl
@[simp] theorem setInfo_covered : (s.setInfo t l).covered = s.covered := rfl
@[simp] theorem setInfo_fault : (s.setInfo t l).fault = s.fault := rfl
@[simp] theorem setInfo_refused : (s.setInfo t l).refused = s.refused := rfl
@[simp] theorem setInfo_pendingCap : (s.setInfo t l).pendingCap = s.pendingCap := rfl
@[simp] theorem setInfo_chan : (s.setInfo t l).chan = s.chan := rfl
@[simp] theorem setInfo_host : (s.setInfo t l).host = s.host := rfl
@[simp] theorem setInfo_taken : (s.setInfo t l).taken = s.taken := rfl
end

section
variable (s : State) (v : U16)
@[simp] theorem setSpeed_mode : (s.setSpeed v).mode = s.mode := rfl
@[simp] theorem setSpeed_rotTarget : (s.setSpeed v).rotTarget = s.rotTarget := rfl
@[simp] theorem setSpeed_phase : (s.setSpeed v).phase = s.phase := rfl
@[simp] theorem setSpeed_req : (s.setSpeed v).req = s.req := rfl
@[simp] theorem setSpeed_out : (s.setSpeed v).out = s.out := rfl
@[simp] theorem setSpeed_msgType : (s.setSpeed v).msgType = s.msgType := rfl
@[simp] theorem setSpeed_len : (s.setSpeed v).len = s.len := rfl
@[simp] theorem setSpeed_speed : (s.setSpeed v).speed = v := rfl
@[simp] theorem setSpeed_startRaw : (s.setSpeed v).startRaw = s.startRaw := rfl
@[simp] theorem setSpeed_endRaw : (s.setSpeed v).endRaw = s.endRaw := rfl
@[simp] theorem setSpeed_timestamp : (s.setSpeed v).timestamp = s.timestamp := rfl
@[simp] theorem setSpeed_checksum : (s.setSpeed v).checksum = s.checksum := rfl
@[simp] theorem setSpeed_idx : (s.setSpeed v).idx = s.idx := rfl
@[simp] theorem setSpeed_ptDist : (s.setSpeed v).ptDist = s.ptDist := rfl
@[simp] theorem setSpeed_ptInt : (s.setSpeed v).ptInt = s.ptInt := rfl
@[simp] theorem setSpeed_pbuf : (s.setSpeed v).pbuf = s.pbuf := rfl
@[simp] theorem setSpeed_pbNext : (s.setSpeed v).pbNext = s.pbNext := rfl
@[simp] theorem setSpeed_pending : (s.setSpeed v).pending = s.pending := rfl
@[simp] theorem setSpeed_covered : (s.setSpeed v).covered = s.covered := rfl
@[simp] theorem setSpeed_fault : (s.setSpeed v).fault = s.fault := rfl
@[simp] theorem setSpeed_refused : (s.setSpeed v).refused = s.refused := rfl
@[simp] theorem setSpeed_pendingCap : (s.setSpeed v).pendingCap = s.pendingCap := rfl
@[simp] theorem setSpeed_chan : (s.setSpeed v).chan = s.chan := rfl
@[simp] theorem setSpeed_host : (s.setSpeed v).host = s.host := rfl
@[simp] theorem setSpeed_taken : (s.setSpeed v).taken = s.taken := rfl
end

section
variable (s : State) (v : U16)
@[simp] theorem setStart_mode : (s.setStart v).mode = s.mode := rfl
@[simp] theorem setStart_rotTarget : (s.setStart v).rotTarget = s.rotTarget := rfl
@[simp] theorem setStart_phase : (s.setStart v).phase = s.phase := rfl
@[simp] theorem setStart_req : (s.setStart v).req = s.req := rfl
@[simp] theorem setStart_out : (s.setStart v).out = s.out := rfl
@[simp] theorem setStart_msgType : (s.setStart v).msgType = s.msgType := rfl
@[simp] theorem setStart_len : (s.setStart v).len = s.len := rfl
@[simp] theorem setStart_speed : (s.setStart v).speed = s.speed := rfl
@[simp] theorem setStart_startRaw : (s.setStart v).startRaw = v := rfl
@[simp] theorem setStart_endRaw : (s.setStart v).endRaw = s.endRaw := rfl
@[simp] theorem setStart_timestamp : (s.setStart v).timestamp = s.timestamp := rfl
@[simp] theorem setStart_checksum : (s.setStart v).checksum = s.checksum := rfl
@[simp] theorem setStart_idx : (s.setStart v).idx = s.idx := rfl
@[simp] theorem setStart_ptDist : (s.setStart v).ptDist = s.ptDist := rfl
@[simp] theorem setStart_ptInt : (s.setStart v).ptInt = s.ptInt := rfl
@[simp] theorem setStart_pbuf : (s.setStart v).pbuf = s.pbuf := rfl
@[simp] theorem setStart_pbNext : (s.setStart v).pbNext = s.pbNext := rfl
@[simp] theorem setStart_pending : (s.setStart v).pending = s.pending := rfl
@[simp] theorem setStart_covered : (s.setStart v).covered = s.covered := rfl
@[simp] theorem setStart_fault : (s.setStart v).fault = s.fault := rfl
@[simp] theorem setStart_refused : (s.setStart v).refused = s.refused := rfl
@[simp] theorem setStart_pendingCap : (s.setStart v).pendingCap = s.pendingCap := rfl
@[simp] theorem setStart_chan : (s.setStart v).chan = s.chan := rfl
@[simp] theorem setStart_host : (s.setStart v).host = s.host := rfl
@[simp] theorem setStart_taken : (s.setStart v).taken = s.taken := rfl
end

section
variable (s : State) (v : U16)
@[simp] theorem setEnd_mode : (s.setEnd v).mode = s.mode := rfl
@[simp] theorem setEnd_rotTarget : (s.setEnd v).rotTarget = s.rotTarget := rfl
@[simp] theorem setEnd_phase : (s.setEnd v).phase = s.phase := rfl
@[simp] theorem setEnd_req : (s.setEnd v).req = s.req := rfl
@[simp] theorem setEnd_out : (s.setEnd v).out = s.out := rfl
@[simp] theorem setEnd_msgType : (s.setEnd v).msgType = s.msgType := rfl
@[simp] theorem setEnd_len : (s.setEnd v).len = s.len := rfl
@[simp] theorem setEnd_speed : (s.setEnd v).speed = s.speed := rfl
@[simp] theorem setEnd_startRaw : (s.setEnd v).startRaw = s.startRaw := rfl
@[simp] theorem setEnd_endRaw : (s.setEnd v).endRaw = v := rfl
@[simp] theorem setEnd_timestamp : (s.setEnd v).timestamp = s.timestamp := rfl
@[simp] theorem setEnd_checksum : (s.setEnd v).checksum = s.checksum := rfl
@[simp] theorem setEnd_idx : (s.setEnd v).idx = s.idx := rfl
@[simp] theorem setEnd_ptDist : (s.setEnd v).ptDist = s.ptDist := rfl
@[simp] theorem setEnd_ptInt : (s.setEnd v).ptInt = s.ptInt := rfl
@[simp] theorem setEnd_pbuf : (s.setEnd v).pbuf = s.pbuf := rfl
@[simp] theorem setEnd_pbNext : (s.setEnd v).pbNext = s.pbNext := rfl
@[simp] theorem setEnd_pending : (s.setEnd v).pending = s.pending := rfl
@[simp] theorem setEnd_covered : (s.setEnd v).covered = s.covered := rfl
@[simp] theorem setEnd_fault : (s.setEnd v).fault = s.fault := rfl
@[simp] theorem setEnd_refused : (s.setEnd v).refused = s.refused := rfl
@[simp] theorem setEnd_pendingCap : (s.setEnd v).pendingCap = s.pendingCap := rfl
@[simp] theorem setEnd_chan : (s.setEnd v).chan = s.chan := rfl
@[simp] theorem setEnd_host : (s.setEnd v).host = s.host := rfl
@[simp] theorem setEnd_taken : (s.setEnd v).taken = s.taken := rfl
end

section
variable (s : State) (v : U16)
@[simp] theorem setTimestamp_mode : (s.setTimestamp v).mode = s.mode := rfl
@[simp] theorem setTimestamp_rotTarget : (s.setTimestamp v).rotTarget = s.rotTarget := rfl
@[simp] theorem setTimestamp_phase : (s.setTimestamp v).phase = s.phase := rfl
@[simp] theorem setTimestamp_req : (s.setTimestamp v).req = s.req := rfl
@[simp] theorem setTimestamp_out : (s.setTimestamp v).out = s.out := rfl
@[simp] theorem setTimestamp_msgType : (s.setTimestamp v).msgType = s.msgType := rfl
@[simp] theorem setTimestamp_len : (s.setTimestamp v).len = s.len := rfl
@[simp] theorem setTimestamp_speed : (s.setTimestamp v).speed = s.speed := rfl
@[simp] theorem setTimestamp_startRaw : (s.setTimestamp v).startRaw = s.startRaw := rfl
@[simp] theorem setTimestamp_endRaw : (s.setTimestamp v).endRaw = s.endRaw := rfl
@[simp] theorem setTimestamp_timestamp : (s.setTimestamp v).timestamp = v := rfl
@[simp] theorem setTimestamp_checksum : (s.setTimestamp v).checksum = s.checksum := rfl
@[simp] theorem setTimestamp_idx : (s.setTimestamp v).idx = s.idx := rfl
@[simp] theorem setTimestamp_ptDist : (s.setTimestamp v).ptDist = s.ptDist := rfl
@[simp] theorem setTimestamp_ptInt : (s.setTimestamp v).ptInt = s.ptInt := rfl
@[simp] theorem setTimestamp_pbuf : (s.setTimestamp v).pbuf = s.pbuf := rfl
@[simp] theorem setTimestamp_pbNext : (s.setTimestamp v).pbNext = s.pbNext := rfl
@[simp] theorem setTimestamp_pending : (s.setTimestamp v).pending = s.pending := rfl
@[simp] theorem setTimestamp_covered : (s.setTimestamp v).covered = s.covered := rfl
@[simp] theorem setTimestamp_fault : (s.setTimestamp v).fault = s.fault := rfl
@[simp] theorem setTimestamp_refused : (s.setTimestamp v).refused = s.refused := rfl
@[simp] theorem setTimestamp_pendingCap : (s.setTimestamp v).pendingCap = s.pendingCap := rfl
@[simp] theorem setTimestamp_chan : (s.setTimestamp v).chan = s.chan := rfl
@[simp] theorem setTimestamp_host : (s.setTimestamp v).host = s.host := rfl
@[simp] theorem setTimestamp_taken : (s.setTimestamp v).taken = s.taken := rfl
end

section
variable (s : State) (b : Byte)
@[simp] theorem setChecksum_mode : (s.setChecksum b).mode = s.mode := rfl
@[simp] theorem setChecksum_rotTarget : (s.setChecksum b).rotTarget = s.rotTarget := rfl
@[simp] theorem setChecksum_phase : (s.setChecksum b).phase = s.phase := rfl
@[simp] theorem setChecksum_req : (s.setChecksum b).req = s.req := rfl
@[simp] theorem setChecksum_out : (s.setChecksum b).out = s.out := rfl
@[simp] theorem setChecksum_msgType : (s.setChecksum b).msgType = s.msgType := rfl
@[simp] theorem setChecksum_len : (s.setChecksum b).len = s.len := rfl
@[simp] theorem setChecksum_speed : (s.setChecksum b).speed = s.speed := rfl
@[simp] theorem setChecksum_startRaw : (s.setChecksum b).startRaw = s.startRaw := rfl
@[simp] theorem setChecksum_endRaw : (s.setChecksum b).endRaw = s.endRaw := rfl
@[simp] theorem setChecksum_timestamp : (s.setChecksum b).timestamp = s.timestamp := rfl
@[simp] theorem setChecksum_checksum : (s.setChecksum b).checksum = b := rfl
@[simp] theorem setChecksum_idx : (s.setChecksum b).idx = s.idx := rfl
@[simp] theorem setChecksum_ptDist : (s.setChecksum b).ptDist = s.ptDist := rfl
@[simp] theorem setChecksum_ptInt : (s.setChecksum b).ptInt = s.ptInt := rfl
@[simp] theorem setChecksum_pbuf : (s.setChecksum b).pbuf = s.pbuf := rfl
@[simp] theorem setChecksum_pbNext : (s.setChecksum b).pbNext = s.pbNext := rfl
@[simp] theorem setChecksum_pending : (s.setChecksum b).pending = s.pending := rfl
@[simp] theorem setChecksum_covered : (s.setChecksum b).covered = s.covered := rfl
@[simp] theorem setChecksum_fault : (s.setChecksum b).fault = s.fault := rfl
@[simp] theorem setChecksum_refused : (s.setChecksum b).refused = s.refused := rfl
@[simp] theorem setChecksum_pendingCap : (s.setChecksum b).pendingCap = s.pendingCap := rfl
@[simp] theorem setChecksum_chan : (s.setChecksum b).chan = s.chan := rfl
@[simp] theorem setChecksum_host : (s.setChecksum b).host = s.host := rfl
@[simp] theorem setChecksum_taken : (s.setChecksum b).taken = s.taken := rfl
end

section
variable (s : State) (k : Fin 31)
@[simp] theorem setIdx_mode : (s.setIdx k).mode = s.mode := rfl
@[simp] theorem setIdx_rotTarget : (s.setIdx k).rotTarget = s.rotTarget := rfl
@[simp] theorem setIdx_phase : (s.setIdx k).phase = s.phase := rfl
@[simp] theorem setIdx_req : (s.setIdx k).req = s.req := rfl
@[simp] theorem setIdx_out : (s.setIdx k).out = s.out := rfl
@[simp] theorem setIdx_msgType : (s.setIdx k).msgType = s.msgType := rfl
@[simp] theorem setIdx_len : (s.setIdx k).len = s.len := rfl
@[simp] theorem setIdx_speed : (s.setIdx k).speed = s.speed := rfl
@[simp] theorem setIdx_startRaw : (s.setIdx k).startRaw = s.startRaw := rfl
@[simp] theorem setIdx_endRaw : (s.setIdx k).endRaw = s.endRaw := rfl
@[simp] theorem setIdx_timestamp : (s.setIdx k).timestamp = s.timestamp := rfl
@[simp] theorem setIdx_checksum : (s.setIdx k).checksum = s.checksum := rfl
@[simp] theorem setIdx_idx : (s.setIdx k).idx = k := rfl
@[simp] theorem setIdx_ptDist : (s.setIdx k).ptDist = s.ptDist := rfl
@[simp] theorem setIdx_ptInt : (s.setIdx k).ptInt = s.ptInt := rfl
@[simp] theorem setIdx_pbuf : (s.setIdx k).pbuf = s.pbuf := rfl
@[simp] theorem setIdx_pbNext : (s.setIdx k).pbNext = s.pbNext := rfl
@[simp] theorem setIdx_pending : (s.setIdx k).pending = s.pending := rfl
@[simp] theorem setIdx_covered : (s.setIdx k).covered = s.covered := rfl
@[simp] theorem setIdx_fault : (s.setIdx k).fault = s.fault := rfl
@[simp] theorem setIdx_refused : (s.setIdx k).refused = s.refused := rfl
@[simp] theorem setIdx_pendingCap : (s.setIdx k).pendingCap = s.pendingCap := rfl
@[simp] theorem setIdx_chan : (s.setIdx k).chan = s.chan := rfl
@[simp] theorem setIdx_host : (s.setIdx k).host = s.host := rfl
@[simp] theorem setIdx_taken : (s.setIdx k).taken = s.taken := rfl
end

section
variable (s : State) (ps : List Point) (n : Nat)
@[simp] theorem setPbuf_mode : (s.setPbuf ps n).mode = s.mode := rfl
@[simp] theorem setPbuf_rotTarget : (s.setPbuf ps n).rotTarget = s.rotTarget := rfl
@[simp] theorem setPbuf_phase : (s.setPbuf ps n).phase = s.phase := rfl
@[simp] theorem setPbuf_req : (s.setPbuf ps n).req = s.req := rfl
@[simp] theorem setPbuf_out : (s.setPbuf ps n).out = s.out := rfl
@[simp] theorem setPbuf_msgType : (s.setPbuf ps n).msgType = s.msgType := rfl
@[simp] theorem setPbuf_len : (s.setPbuf ps n).len = s.len := rfl
@[simp] theorem setPbuf_speed : (s.setPbuf ps n).speed = s.speed := rfl
@[simp] theorem setPbuf_startRaw : (s.setPbuf ps n).startRaw = s.startRaw := rfl
@[simp] theorem setPbuf_endRaw : (s.setPbuf ps n).endRaw = s.endRaw := rfl
@[simp] theorem setPbuf_timestamp : (s.setPbuf ps n).timestamp = s.timestamp := rfl
@[simp] theorem setPbuf_checksum : (s.setPbuf ps n).checksum = s.checksum := rfl
@[simp] theorem setPbuf_idx : (s.setPbuf ps n).idx = s.idx := rfl
@[simp] theorem setPbuf_ptDist : (s.setPbuf ps n).ptDist = s.ptDist := rfl
@[simp] theorem setPbuf_ptInt : (s.setPbuf ps n).ptInt = s.ptInt := rfl
@[simp] theorem setPbuf_pbuf : (s.setPbuf ps n).pbuf = ps := rfl
@[simp] theorem setPbuf_pbNext : (s.setPbuf ps n).pbNext = n := rfl
@[simp] theorem setPbuf_pending : (s.setPbuf ps n).pending = s.pending := rfl
@[simp] theorem setPbuf_covered : (s.setPbuf ps n).covered = s.covered := rfl
@[simp] theorem setPbuf_fault : (s.setPbuf ps n).fault = s.fault := rfl
@[simp] theorem setPbuf_refused : (s.setPbuf ps n).refused = s.refused := rfl
@[simp] theorem setPbuf_pendingCap : (s.setPbuf ps n).pendingCap = s.pendingCap := rfl
@[simp] theorem setPbuf_chan : (s.setPbuf ps n).chan = s.chan := rfl
@[simp] theorem setPbuf_host : (s.setPbuf ps n).host = s.host := rfl
@[simp] theorem setPbuf_taken : (s.setPbuf ps n).taken = s.taken := rfl
end

section
variable (s : State) (ps : List Point) (c : F64)
@[simp] theorem setPending_mode : (s.setPending ps c).mode = s.mode := rfl
@[simp] theorem setPending_rotTarget : (s.setPending ps c).rotTarget = s.rotTarget := rfl
@[simp] theorem setPending_phase : (s.setPending ps c).phase = s.phase := rfl
@[simp] theorem setPending_req : (s.setPending ps c).req = s.req := rfl
@[simp] theorem setPending_out : (s.setPending ps c).out = s.out := rfl
@[simp] theorem setPending_msgType : (s.setPending ps c).msgType = s.msgType := rfl
@[simp] theorem setPending_len : (s.setPending ps c).len = s.len := rfl
@[simp] theorem setPending_speed : (s.setPending ps c).speed = s.speed := rfl
@[simp] theorem setPending_startRaw : (s.setPending ps c).startRaw = s.startRaw := rfl
@[simp] theorem setPending_endRaw : (s.setPending ps c).endRaw = s.endRaw := rfl
@[simp] theorem setPending_timestamp : (s.setPending ps c).timestamp = s.timestamp := rfl
@[simp] theorem setPending_checksum : (s.setPending ps c).checksum = s.checksum := rfl
@[simp] theorem setPending_idx : (s.setPending ps c).idx = s.idx := rfl
@[simp] theorem setPending_ptDist : (s.setPending ps c).ptDist = s.ptDist := rfl
@[simp] theorem setPending_ptInt : (s.setPending ps c).ptInt = s.ptInt := rfl
@[simp] theorem setPending_pbuf : (s.setPending ps c).pbuf = s.pbuf := rfl
@[simp] theorem setPending_pbNext : (s.setPending ps c).pbNext = s.pbNext := rfl
@[simp] theorem setPending_pending : (s.setPending ps c).pending = ps := rfl
@[simp] theorem setPending_covered : (s.setPending ps c).covered = c := rfl
@[simp] theorem setPending_fault : (s.setPending ps c).fault = s.fault := rfl
@[simp] theorem setPending_refused : (s.setPending ps c).refused = s.refused := rfl
@[simp] theorem setPending_pendingCap : (s.setPending ps c).pendingCap = s.pendingCap := rfl
@[simp] theorem setPending_chan : (s.setPending ps c).chan = s.chan := rfl
@[simp] theorem setPending_host : (s.setPending ps c).host = s.host := rfl
@[simp] theorem setPending_taken : (s.setPending ps c).taken = s.taken := rfl
end

section
variable (s : State)
@[simp] theorem request_mode : s.request.mode = s.mode := rfl
@[simp] theorem request_rotTarget : s.request.rotTarget = s.rotTarget := rfl
@[simp] theorem request_phase : s.request.phase = s.phase := rfl
@[simp] theorem request_req : s.request.req = true := rfl
@[simp] theorem request_out : s.request.out = s.out := rfl
@[simp] theorem request_msgType : s.request.msgType = s.msgType := rfl
@[simp] theorem request_len : s.request.len = s.len := rfl
@[simp] theorem request_speed : s.request.speed = s.speed := rfl
@[simp] theorem request_startRaw : s.request.startRaw = s.startRaw := rfl
@[simp] theorem request_endRaw : s.request.endRaw = s.endRaw := rfl
@[simp] theorem request_timestamp : s.request.timestamp = s.timestamp := rfl
@[simp] theorem request_checksum : s.request.checksum = s.checksum := rfl
@[simp] theorem request_idx : s.request.idx = s.idx := rfl
@[simp] theorem request_ptDist : s.request.ptDist = s.ptDist := rfl
@[simp] theorem request_ptInt : s.request.ptInt = s.ptInt := rfl
@[simp] theorem request_pbuf : s.request.pbuf = s.pbuf := rfl
@[simp] theorem request_pbNext : s.request.pbNext = s.pbNext := rfl
@[simp] theorem request_pending : s.request.pending = s.pending := rfl
@[simp] theorem request_covered : s.request.covered = s.covered := rfl
@[simp] theorem request_fault : s.request.fault = s.fault := rfl
@[simp] theorem request_refused : s.request.refused = s.refused := rfl
@[simp] theorem request_pendingCap : s.request.pendingCap = s.pendingCap := rfl
@[simp] theorem request_chan : s.request.chan = s.chan := rfl
@[simp] theorem request_host : s.request.host = s.host := rfl
@[simp] theorem request_taken : s.request.taken = s.taken := rfl
end

section
variable (s : State) (it : Item)
@[simp] theorem handOver_mode : (s.handOver it).mode = s.mode := rfl
@[simp] theorem handOver_rotTarget : (s.handOver it).rotTarget = s.rotTarget := rfl
@[simp] theorem handOver_phase : (s.handOver it).phase = s.phase := rfl
@[simp] theorem handOver_req : (s.handOver it).req = s.req := rfl
@[simp] theorem handOver_out : (s.handOver it).out = none := rfl
@[simp] theorem handOver_msgType : (s.handOver it).msgType = s.msgType := rfl
@[simp] theorem handOver_len : (s.handOver it).len = s.len := rfl
@[simp] theorem handOver_speed : (s.handOver it).speed = s.speed := rfl
@[simp] theorem handOver_startRaw : (s.handOver it).startRaw = s.startRaw := rfl
@[simp] theorem handOver_endRaw : (s.handOver it).endRaw = s.endRaw := rfl
@[simp] theorem handOver_timestamp : (s.handOver it).timestamp = s.timestamp := rfl
@[simp] theorem handOver_checksum : (s.handOver it).checksum = s.checksum := rfl
@[simp] theorem handOver_idx : (s.handOver it).idx = s.idx := rfl
@[simp] theorem handOver_ptDist : (s.handOver it).ptDist = s.ptDist := rfl
@[simp] theorem handOver_ptInt : (s.handOver it).ptInt = s.ptInt := rfl
@[simp] theorem handOver_pbuf : (s.handOver it).pbuf = s.pbuf := rfl
@[simp] theorem handOver_pbNext : (s.handOver it).pbNext = s.pbNext := rfl
@[simp] theorem handOver_pending : (s.handOver it).pending = s.pending := rfl
@[simp] theorem handOver_covered : (s.handOver it).covered = s.covered := rfl
@[simp] theorem handOver_fault : (s.handOver it).fault = s.fault := rfl
@[simp] theorem handOver_refused : (s.handOver it).refused = s.refused := rfl
@[simp] theorem handOver_pendingCap : (s.handOver it).pendingCap = s.pendingCap := rfl
@[simp] theorem handOver_chan : (s.handOver it).chan = s.chan := rfl
@[simp] theorem handOver_host : (s.handOver it).host = s.host := rfl
@[simp] theorem handOver_taken : (s.handOver it).taken = s.taken ++ [it] := rfl
end

section
variable (s : State) (ts : List Token)
@[simp] theorem setChan_mode : (s.setChan ts).mode = s.mode := rfl
@[simp] theorem setChan_rotTarget : (s.setChan ts).rotTarget = s.rotTarget := rfl
@[simp] theorem setChan_phase : (s.setChan ts).phase = s.phase := rfl
@[simp] theorem setChan_req : (s.setChan ts).req = s.req := rfl
@[simp] theorem setChan_out : (s.setChan ts).out = s.out := rfl
@[simp] theorem setChan_msgType : (s.setChan ts).msgType = s.msgType := rfl
@[simp] theorem setChan_len : (s.setChan ts).len = s.len := rfl
@[simp] theorem setChan_speed : (s.setChan ts).speed = s.speed := rfl
@[simp] theorem setChan_startRaw : (s.setChan ts).startRaw = s.startRaw := rfl
@[simp] theorem setChan_endRaw : (s.setChan ts).endRaw = s.endRaw := rfl
@[simp] theorem setChan_timestamp : (s.setChan ts).timestamp = s.timestamp := rfl
@[simp] theorem setChan_checksum : (s.setChan ts).checksum = s.checksum := rfl
@[simp] theorem setChan_idx : (s.setChan ts).idx = s.idx := rfl
@[simp] theorem setChan_ptDist : (s.setChan ts).ptDist = s.ptDist := rfl
@[simp] theorem setChan_ptInt : (s.setChan ts).ptInt = s.ptInt := rfl
@[simp] theorem setChan_pbuf : (s.setChan ts).pbuf = s.pbuf := rfl
@[simp] theorem setChan_pbNext : (s.setChan ts).pbNext = s.pbNext := rfl
@[simp] theorem setChan_pending : (s.setChan ts).pending = s.pending := rfl
@[simp] theorem setChan_covered : (s.setChan ts).covered = s.covered := rfl
@[simp] theorem setChan_fault : (s.setChan ts).fault = s.fault := rfl
@[simp] theorem setChan_refused : (s.setChan ts).refused = s.refused := rfl
@[simp] theorem setChan_pendingCap : (s.setChan ts).pendingCap = s.pendingCap := rfl
@[simp] theorem setChan_chan : (s.setChan ts).chan = ts := rfl
@[simp] theorem setChan_host : (s.setChan ts).host = s.host := rfl
@[simp] theorem setChan_taken : (s.setChan ts).taken = s.taken := rfl
end

section
variable (s : State) (hs : List HostWord)
@[simp] theorem setHost_mode : (s.setHost hs).mode = s.mode := rfl
@[simp] theorem setHost_rotTarget : (s.setHost hs).rotTarget = s.rotTarget := rfl
@[simp] theorem setHost_phase : (s.setHost hs).phase = s.phase := rfl
@[simp] theorem setHost_req : (s.setHost hs).req = s.req := rfl
@[simp] theorem setHost_out : (s.setHost hs).out = s.out := rfl
@[simp] theorem setHost_msgType : (s.setHost hs).msgType = s.msgType := rfl
@[simp] theorem setHost_len : (s.setHost hs).len = s.len := rfl
@[simp] theorem setHost_speed : (s.setHost hs).speed = s.speed := rfl
@[simp] theorem setHost_startRaw : (s.setHost hs).startRaw = s.startRaw := rfl
@[simp] theorem setHost_endRaw : (s.setHost hs).endRaw = s.endRaw := rfl
@[simp] theorem setHost_timestamp : (s.setHost hs).timestamp = s.timestamp := rfl
@[simp] theorem setHost_checksum : (s.setHost hs).checksum = s.checksum := rfl
@[simp] theorem setHost_idx : (s.setHost hs).idx = s.idx := rfl
@[simp] theorem setHost_ptDist : (s.setHost hs).ptDist = s.ptDist := rfl
@[simp] theorem setHost_ptInt : (s.setHost hs).ptInt = s.ptInt := rfl
@[simp] theorem setHost_pbuf : (s.setHost hs).pbuf = s.pbuf := rfl
@[simp] theorem setHost_pbNext : (s.setHost hs).pbNext = s.pbNext := rfl
@[simp] theorem setHost_pending : (s.setHost hs).pending = s.pending := rfl
@[simp] theorem setHost_covered : (s.setHost hs).covered = s.covered := rfl
@[simp] theorem setHost_fault : (s.setHost hs).fault = s.fault := rfl
@[simp] theorem setHost_refused : (s.setHost hs).refused = s.refused := rfl
@[simp] theorem setHost_pendingCap : (s.setHost hs).pendingCap = s.pendingCap := rfl
@[simp] theorem setHost_chan : (s.setHost hs).chan = s.chan := rfl
@[simp] theorem setHost_host : (s.setHost hs).host = hs := rfl
@[simp] theorem setHost_taken : (s.setHost hs).taken = s.taken := rfl
end

section
variable (s : State) (it : Item)
@[simp] theorem deliver_mode : (s.deliver it).mode = s.mode := rfl
@[simp] theorem deliver_rotTarget : (s.deliver it).rotTarget = s.rotTarget := rfl
@[simp] theorem deliver_phase : (s.deliver it).phase = s.phase := rfl
@[simp] theorem deliver_req : (s.deliver it).req = false := rfl
@[simp] theorem deliver_out : (s.deliver it).out = some it := rfl
@[simp] theorem deliver_msgType : (s.deliver it).msgType = s.msgType := rfl
@[simp] theorem deliver_len : (s.deliver it).len = s.len := rfl
@[simp] theorem deliver_speed : (s.deliver it).speed = s.speed := rfl
@[simp] theorem deliver_startRaw : (s.deliver it).startRaw = s.startRaw := rfl
@[simp] theorem deliver_endRaw : (s.deliver it).endRaw = s.endRaw := rfl
@[simp] theorem deliver_timestamp : (s.deliver it).timestamp = s.timestamp := rfl
@[simp] theorem deliver_checksum : (s.deliver it).checksum = s.checksum := rfl
@[simp] theorem deliver_idx : (s.deliver it).idx = s.idx := rfl
@[simp] theorem deliver_ptDist : (s.deliver it).ptDist = s.ptDist := rfl
@[simp] theorem deliver_ptInt : (s.deliver it).ptInt = s.ptInt := rfl
@[simp] theorem deliver_pbuf : (s.deliver it).pbuf = s.pbuf := rfl
@[simp] theorem deliver_pbNext : (s.deliver it).pbNext = s.pbNext := rfl
@[simp] theorem deliver_pending : (s.deliver it).pending = s.pending := rfl
@[simp] theorem deliver_covered : (s.deliver it).covered = s.covered := rfl
@[simp] theorem deliver_fault : (s.deliver it).fault = s.fault := rfl
@[simp] theorem deliver_refused : (s.deliver it).refused = s.refused := rfl
@[simp] theorem deliver_pendingCap : (s.deliver it).pendingCap = s.pendingCap := rfl
@[simp] theorem deliver_chan : (s.deliver it).chan = s.chan := rfl
@[simp] theorem deliver_host : (s.deliver it).host = s.host := rfl
@[simp] theorem deliver_taken : (s.deliver it).taken = s.taken := rfl
end

section
variable (s : State)
@[simp] theorem refuse_mode : s.refuse.mode = s.mode := rfl
@[simp] theorem refuse_rotTarget : s.refuse.rotTarget = s.rotTarget := rfl
@[simp] theorem refuse_phase : s.refuse.phase = s.phase := rfl
@[simp] theorem refuse_req : s.refuse.req = s.req := rfl
@[simp] theorem refuse_out : s.refuse.out = s.out := rfl
@[simp] theorem refuse_msgType : s.refuse.msgType = s.msgType := rfl
@[simp] theorem refuse_len : s.refuse.len = s.len := rfl
@[simp] theorem refuse_speed : s.refuse.speed = s.speed := rfl
@[simp] theorem refuse_startRaw : s.refuse.startRaw = s.startRaw := rfl
@[simp] theorem refuse_endRaw : s.refuse.endRaw = s.endRaw := rfl
@[simp] theorem refuse_timestamp : s.refuse.timestamp = s.timestamp := rfl
@[simp] theorem refuse_checksum : s.refuse.checksum = s.checksum := rfl
@[simp] theorem refuse_idx : s.refuse.idx = s.idx := rfl
@[simp] theorem refuse_ptDist : s.refuse.ptDist = s.ptDist := rfl
@[simp] theorem refuse_ptInt : s.refuse.ptInt = s.ptInt := rfl
@[simp] theorem refuse_pbuf : s.refuse.pbuf = s.pbuf := rfl
@[simp] theorem refuse_pbNext : s.refuse.pbNext = s.pbNext := rfl
@[simp] theorem refuse_pending : s.refuse.pending = s.pending := rfl
@[simp] theorem refuse_covered : s.refuse.covered = s.covered := rfl
@[simp] theorem refuse_fault : s.refuse.fault = s.fault := rfl
@[simp] theorem refuse_refused : s.refuse.refused = true := rfl
@[simp] theorem refuse_pendingCap : s.refuse.pendingCap = s.pendingCap := rfl
@[simp] theorem refuse_chan : s.refuse.chan = s.chan := rfl
@[simp] theorem refuse_host : s.refuse.host = s.host := rfl
@[simp] theorem refuse_taken : s.refuse.taken = s.taken := rfl
end

section
variable (s : State)
@[simp] theorem overflow_mode : s.overflow.mode = s.mode := rfl
@[simp] theorem overflow_rotTarget : s.overflow.rotTarget = s.rotTarget := rfl
@[simp] theorem overflow_phase : s.overflow.phase = s.phase := rfl
@[simp] theorem overflow_req : s.overflow.req = s.req := rfl
@[simp] theorem overflow_out : s.overflow.out = s.out := rfl
@[simp] theorem overflow_msgType : s.overflow.msgType = s.msgType := rfl
@[simp] theorem overflow_len : s.overflow.len = s.len := rfl
@[simp] theorem overflow_speed : s.overflow.speed = s.speed := rfl
@[simp] theorem overflow_startRaw : s.overflow.startRaw = s.startRaw := rfl
@[simp] theorem overflow_endRaw : s.overflow.endRaw = s.endRaw := rfl
@[simp] theorem overflow_timestamp : s.overflow.timestamp = s.timestamp := rfl
@[simp] theorem overflow_checksum : s.overflow.checksum = s.checksum := rfl
@[simp] theorem overflow_idx : s.overflow.idx = s.idx := rfl
@[simp] theorem overflow_ptDist : s.overflow.ptDist = s.ptDist := rfl
@[simp] theorem overflow_ptInt : s.overflow.ptInt = s.ptInt := rfl
@[simp] theorem overflow_pbuf : s.overflow.pbuf = s.pbuf := rfl
@[simp] theorem overflow_pbNext : s.overflow.pbNext = s.pbNext := rfl
@[simp] theorem overflow_pending : s.overflow.pending = s.pending := rfl
@[simp] theorem overflow_covered : s.overflow.covered = s.covered := rfl
@[simp] theorem overflow_fault : s.overflow.fault = some .pendingOverflow := rfl
@[simp] theorem overflow_refused : s.overflow.refused = s.refused := rfl
@[simp] theorem overflow_pendingCap : s.overflow.pendingCap = s.pendingCap := rfl
@[simp] theorem overflow_chan : s.overflow.chan = s.chan := rfl
@[simp] theorem overflow_host : s.overflow.host = s.host := rfl
@[simp] theorem overflow_taken : s.overflow.taken = s.taken := rfl
end

section
variable (s : State) (d : U16)
@[simp] theorem setCurDist_mode : (s.setCurDist d).mode = s.mode := rfl
@[simp] theorem setCurDist_rotTarget : (s.setCurDist d).rotTarget = s.rotTarget := rfl
@[simp] theorem setCurDist_phase : (s.setCurDist d).phase = s.phase := rfl
@[simp] theorem setCurDist_req : (s.setCurDist d).req = s.req := rfl
@[simp] theorem setCurDist_out : (s.setCurDist d).out = s.out := rfl
@[simp] theorem setCurDist_msgType : (s.setCurDist d).msgType = s.msgType := rfl
@[simp] theorem setCurDist_len : (s.setCurDist d).len = s.len := rfl
@[simp] theorem setCurDist_speed : (s.setCurDist d).speed = s.speed := rfl
@[simp] theorem setCurDist_startRaw : (s.setCurDist d).startRaw = s.startRaw := rfl
@[simp] theorem setCurDist_endRaw : (s.setCurDist d).endRaw = s.endRaw := rfl
@[simp] theorem setCurDist_timestamp : (s.setCurDist d).timestamp = s.timestamp := rfl
@[simp] theorem setCurDist_checksum : (s.setCurDist d).checksum = s.checksum := rfl
@[simp] theorem setCurDist_idx : (s.setCurDist d).idx = s.idx := rfl
@[simp] theorem setCurDist_ptDist : (s.setCurDist d).ptDist = s.ptDist.set s.idx.val d := rfl
@[simp] theorem setCurDist_ptInt : (s.setCurDist d).ptInt = s.ptInt := rfl
@[simp] theorem setCurDist_pbuf : (s.setCurDist d).pbuf = s.pbuf := rfl
@[simp] theorem setCurDist_pbNext : (s.setCurDist d).pbNext = s.pbNext := rfl
@[simp] theorem setCurDist_pending : (s.setCurDist d).pending = s.pending := rfl
@[simp] theorem setCurDist_covered : (s.setCurDist d).covered = s.covered := rfl
@[simp] theorem setCurDist_fault : (s.setCurDist d).fault = s.fault := rfl
@[simp] theorem setCurDist_refused : (s.setCurDist d).refused = s.refused := rfl
@[simp] theorem setCurDist_pendingCap : (s.setCurDist d).pendingCap = s.pendingCap := rfl
@[simp] theorem setCurDist_chan : (s.setCurDist d).chan = s.chan := rfl
@[simp] theorem setCurDist_host : (s.setCurDist d).host = s.host := rfl
@[simp] theorem setCurDist_taken : (s.setCurDist d).taken = s.taken := rfl
end

section
variable (s : State) (b : Byte)
@[simp] theorem setCurInt_mode : (s.setCurInt b).mode = s.mode := rfl
@[simp] theorem setCurInt_rotTarget : (s.setCurInt b).rotTarget = s.rotTarget := rfl
@[simp] theorem setCurInt_phase : (s.setCurInt b).phase = s.phase := rfl
@[simp] theorem setCurInt_req : (s.setCurInt b).req = s.req := rfl
@[simp] theorem setCurInt_out : (s.setCurInt b).out = s.out := rfl
@[simp] theorem setCurInt_msgType : (s.setCurInt b).msgType = s.msgType := rfl
@[simp] theorem setCurInt_len : (s.setCurInt b).len = s.len := rfl
@[simp] theorem setCurInt_speed : (s.setCurInt b).speed = s.speed := rfl
@[simp] theorem setCurInt_startRaw : (s.setCurInt b).startRaw = s.startRaw := rfl
@[simp] theorem setCurInt_endRaw : (s.setCurInt b).endRaw = s.endRaw := rfl
@[simp] theorem setCurInt_timestamp : (s.setCurInt b).timestamp = s.timestamp := rfl
@[simp] theorem setCurInt_checksum : (s.setCurInt b).checksum = s.checksum := rfl
@[simp] theorem setCurInt_idx : (s.setCurInt b).idx = s.idx := rfl
@[simp] theorem setCurInt_ptDist : (s.setCurInt b).ptDist = s.ptDist := rfl
@[simp] theorem setCurInt_ptInt : (s.setCurInt b).ptInt = s.ptInt.set s.idx.val b := rfl
@[simp] theorem setCurInt_pbuf : (s.setCurInt b).pbuf = s.pbuf := rfl
@[simp] theorem setCurInt_pbNext : (s.setCurInt b).pbNext = s.pbNext := rfl
@[simp] theorem setCurInt_pending : (s.setCurInt b).pending = s.pending := rfl
@[simp] theorem setCurInt_covered : (s.setCurInt b).covered = s.covered := rfl
@[simp] theorem setCurInt_fault : (s.setCurInt b).fault = s.fault := rfl
@[simp] theorem setCurInt_refused : (s.setCurInt b).refused = s.refused := rfl
@[simp] theorem setCurInt_pendingCap : (s.setCurInt b).pendingCap = s.pendingCap := rfl
@[simp] theorem setCurInt_chan : (s.setCurInt b).chan = s.chan := rfl
@[simp] theorem setCurInt_host : (s.setCurInt b).host = s.host := rfl
@[simp] theorem setCurInt_taken : (s.setCurInt b).taken = s.taken := rfl
end

section
variable (s : State)
@[simp] theorem dropSequence_mode : s.dropSequence.mode = s.mode := rfl
@[simp] theorem dropSequence_rotTarget : s.dropSequence.rotTarget = s.rotTarget := rfl
@[simp] theorem dropSequence_phase : s.dropSequence.phase = s.phase := rfl
@[simp] theorem dropSequence_req : s.dropSequence.req = s.req := rfl
@[simp] theorem dropSequence_out : s.dropSequence.out = s.out := rfl
@[simp] theorem dropSequence_msgType : s.dropSequence.msgType = s.msgType := rfl
@[simp] theorem dropSequence_len : s.dropSequence.len = s.len := rfl
@[simp] theorem dropSequence_speed : s.dropSequence.speed = s.speed := rfl
@[simp] theorem dropSequence_startRaw : s.dropSequence.startRaw = s.startRaw := rfl
@[simp] theorem dropSequence_endRaw : s.dropSequence.endRaw = s.endRaw := rfl
@[simp] theorem dropSequence_timestamp : s.dropSequence.timestamp = s.timestamp := rfl
@[simp] theorem dropSequence_checksum : s.dropSequence.checksum = s.checksum := rfl
@[simp] theorem dropSequence_idx : s.dropSequence.idx = s.idx := rfl
@[simp] theorem dropSequence_ptDist : s.dropSequence.ptDist = s.ptDist := rfl
@[simp] theorem dropSequence_ptInt : s.dropSequence.ptInt = s.ptInt := rfl
@[simp] theorem dropSequence_pbuf : s.dropSequence.pbuf = [] := rfl
@[simp] theorem dropSequence_pbNext : s.dropSequence.pbNext = 0 := rfl
@[simp] theorem dropSequence_pending : s.dropSequence.pending = [] := rfl
@[simp] theorem dropSequence_covered : s.dropSequence.covered = covered0 := rfl
@[simp] theorem dropSequence_fault : s.dropSequence.fault = s.fault := rfl
@[simp] theorem dropSequence_refused : s.dropSequence.refused = s.refused := rfl
@[simp] theorem dropSequence_pendingCap : s.dropSequence.pendingCap = s.pendingCap := rfl
@[simp] theorem dropSequence_chan : s.dropSequence.chan = s.chan := rfl
@[simp] theorem dropSequence_host : s.dropSequence.host = s.host := rfl
@[simp] theorem dropSequence_taken : s.dropSequence.taken = s.taken := rfl
end

section
variable (s : State) (m : Mode) (rot : BitVec 32)
@[simp] theorem applyReset_mode : (s.applyReset m rot).mode = m := rfl
@[simp] theorem applyReset_rotTarget : (s.applyReset m rot).rotTarget = rot := rfl
@[simp] theorem applyReset_phase : (s.applyReset m rot).phase = reset.phase := rfl
@[simp] theorem applyReset_req : (s.applyReset m rot).req = reset.req := rfl
@[simp] theorem applyReset_out : (s.applyReset m rot).out = reset.out := rfl
@[simp] theorem applyReset_msgType : (s.applyReset m rot).msgType = reset.msgType := rfl
@[simp] theorem applyReset_len : (s.applyReset m rot).len = reset.len := rfl
@[simp] theorem applyReset_speed : (s.applyReset m rot).speed = reset.speed := rfl
@[simp] theorem applyReset_startRaw : (s.applyReset m rot).startRaw = reset.startRaw := rfl
@[simp] theorem applyReset_endRaw : (s.applyReset m rot).endRaw = reset.endRaw := rfl
@[simp] theorem applyReset_timestamp : (s.applyReset m rot).timestamp = reset.timestamp := rfl
@[simp] theorem applyReset_checksum : (s.applyReset m rot).checksum = reset.checksum := rfl
@[simp] theorem applyReset_idx : (s.applyReset m rot).idx = reset.idx := rfl
@[simp] theorem applyReset_ptDist : (s.applyReset m rot).ptDist = reset.ptDist := rfl
@[simp] theorem applyReset_ptInt : (s.applyReset m rot).ptInt = reset.ptInt := rfl
@[simp] theorem applyReset_pbuf : (s.applyReset m rot).pbuf = reset.pbuf := rfl
@[simp] theorem applyReset_pbNext : (s.applyReset m rot).pbNext = reset.pbNext := rfl
@[simp] theorem applyReset_pending : (s.applyReset m rot).pending = reset.pending := rfl
@[simp] theorem applyReset_covered : (s.applyReset m rot).covered = reset.covered := rfl
@[simp] theorem applyReset_fault : (s.applyReset m rot).fault = reset.fault := rfl
@[simp] theorem applyReset_refused : (s.applyReset m rot).refused = reset.refused := rfl
@[simp] theorem applyReset_pendingCap : (s.applyReset m rot).pendingCap = s.pendingCap := rfl
@[simp] theorem applyReset_chan : (s.applyReset m rot).chan = s.chan := rfl
@[simp] theorem applyReset_host : (s.applyReset m rot).host = s.host := rfl
@[simp] theorem applyReset_taken : (s.applyReset m rot).taken = s.taken := rfl
end

@[simp] theorem reset_mode : reset.mode = .single := rfl
@[simp] theorem reset_rotTarget : reset.rotTarget = 1#32 := rfl
@[simp] theorem reset_phase : reset.phase = .idle := rfl
@[simp] theorem reset_req : reset.req = false := rfl
@[simp] theorem reset_out : reset.out = none := rfl
@[simp] theorem reset_msgType : reset.msgType = 0#3 := rfl
@[simp] theorem reset_len : reset.len = 0#5 := rfl
@[simp] theorem reset_speed : reset.speed = 0#16 := rfl
@[simp] theorem reset_startRaw : reset.startRaw = 0#16 := rfl
@[simp] theorem reset_endRaw : reset.endRaw = 0#16 := rfl
@[simp] theorem reset_timestamp : reset.timestamp = 0#16 := rfl
@[simp] theorem reset_checksum : reset.checksum = 0#8 := rfl
@[simp] theorem reset_idx : reset.idx = 0 := rfl
@[simp] theorem reset_ptDist : reset.ptDist = Vector.replicate 31 0#16 := rfl
@[simp] theorem reset_ptInt : reset.ptInt = Vector.replicate 31 0#8 := rfl
@[simp] theorem reset_pbuf : reset.pbuf = [] := rfl
@[simp] theorem reset_pbNext : reset.pbNext = 0 := rfl
@[simp] theorem reset_pending : reset.pending = [] := rfl
@[simp] theorem reset_covered : reset.covered = covered0 := rfl
@[simp] theorem reset_fault : reset.fault = none := rfl
@[simp] theorem reset_refused : reset.refused = false := rfl
@[simp] theorem reset_pendingCap : reset.pendingCap = none := rfl
@[simp] theorem reset_chan : reset.chan = [] := rfl
@[simp] theorem reset_host : reset.host = [] := rfl
@[simp] theorem reset_taken : reset.taken = [] := rfl

end Sys2Proof.Machine.State
end

