-- ==== Sys2Proof/Laws/Decode.lean ====
section
/-! SUPPORT. The codes of phases and modes are bijections, the decode word's fields read back, and what the decoder
answers on the decode word of a phase and a token. -/

namespace Sys2Proof

@[simp] theorem Phase.ofCode_code (p : Phase) : Phase.ofCode p.code = p := by cases p <;> rfl

@[simp] theorem Phase.code_ofCode (c : BitVec 4) : (Phase.ofCode c).code = c := by
  revert c; decide

@[simp] theorem Mode.ofCode_code (m : Mode) : Mode.ofCode m.code = m := by cases m <;> rfl

@[simp] theorem Mode.code_ofCode (c : BitVec 2) : (Mode.ofCode c).code = c := by
  revert c; decide

/-- The decode word as a number: PHASE from bit 9, FAIL at bit 8, BYTE from bit 0 (R90). -/
theorem decodeWord_toNat (p : Phase) (t : Token) :
    (decodeWord p t).toNat = p.code.toNat * 512 + t.fail.toNat * 256 + t.byte.toNat := by
  have h : ((p.code ++ BitVec.ofBool t.fail : BitVec (4 + 1)) ++ t.byte : BitVec (4 + 1 + 8)).toNat
      = p.code.toNat * 512 + t.fail.toNat * 256 + t.byte.toNat := by
    rw [BitVec.toNat_append, BitVec.toNat_append, ← Nat.shiftLeft_add_eq_or_of_lt t.byte.isLt,
      ← Nat.shiftLeft_add_eq_or_of_lt (BitVec.ofBool t.fail).isLt, Nat.shiftLeft_eq, Nat.shiftLeft_eq,
      BitVec.toNat_ofBool]
    omega
  exact h

@[simp] theorem dwPhase_decodeWord (p : Phase) (t : Token) : dwPhase (decodeWord p t) = p := by
  have h : (decodeWord p t).extractLsb' 9 4 = p.code := by
    apply BitVec.eq_of_toNat_eq
    have := t.byte.isLt
    have := p.code.isLt
    rw [BitVec.extractLsb'_toNat, decodeWord_toNat, Nat.shiftRight_eq_div_pow]
    cases t.fail <;> simp <;> omega
  simp [dwPhase, h]

@[simp] theorem dwFail_decodeWord (p : Phase) (t : Token) : dwFail (decodeWord p t) = t.fail := by
  have := t.byte.isLt
  rw [dwFail, BitVec.getLsbD, decodeWord_toNat, Nat.testBit_eq_decide_div_mod_eq]
  cases t.fail <;> simp <;> omega

@[simp] theorem dwByte_decodeWord (p : Phase) (t : Token) : dwByte (decodeWord p t) = t.byte := by
  apply BitVec.eq_of_toNat_eq
  have := t.byte.isLt
  rw [dwByte, BitVec.extractLsb'_toNat, decodeWord_toNat]
  cases t.fail <;> simp <;> omega

/-- The decoder on a formed decode word. -/
theorem decodeToken_decodeWord (p : Phase) (t : Token) :
    decodeToken (decodeWord p t) = if t.fail then decodeFail p t.byte else decodeByte p t.byte := by
  simp [decodeToken]

/-- A Fail token in a reading phase is FAIL. -/
theorem decodeToken_fail {p : Phase} (h : p.reading = true) (b : Byte) :
    decodeToken (decodeWord p { fail := true, byte := b }) = .ok (.fail p b) := by
  simp [decodeToken_decodeWord, decodeFail, h]

/-- A byte token is decoded by its phase and its byte. -/
theorem decodeToken_byte (p : Phase) (b : Byte) :
    decodeToken (decodeWord p { fail := false, byte := b }) = decodeByte p b := by
  simp [decodeToken_decodeWord]

/-- What a byte selects, phase by phase: the inversion of `decodeByte`. -/
theorem decodeByte_ok {p : Phase} {b : Byte} {i : Instr} (h : decodeByte p b = .ok i) :
    (p = .hunt ∧ b = Config.syncByte ∧ i = .huntSync) ∨ (p = .hunt ∧ b ≠ Config.syncByte ∧ i = .huntSkip b) ∨
    (p = .info ∧ i = .info b) ∨ (p = .spdL ∧ i = .spdL b) ∨ (p = .spdH ∧ i = .spdH b) ∨
    (p = .staL ∧ i = .staL b) ∨ (p = .staH ∧ i = .staH b) ∨ (p = .dstL ∧ i = .dstL b) ∨
    (p = .dstH ∧ i = .dstH b) ∨ (p = .int ∧ i = .int b) ∨ (p = .endL ∧ i = .endL b) ∨
    (p = .endH ∧ i = .endH b) ∨ (p = .tsL ∧ i = .tsL b) ∨ (p = .tsH ∧ i = .tsH b) ∨
    (p = .csum ∧ i = .csum b) := by
  cases p <;> simp only [decodeByte, Except.ok.injEq, reduceCtorEq] at h
  case hunt => by_cases hb : b = Config.syncByte <;> simp [hb] at h ⊢ <;> exact h.symm
  all_goals subst h; simp

/-- What a decode word selects is FAIL on a Fail token in a reading phase, and else what the byte selects. -/
theorem decodeToken_ok {p : Phase} {t : Token} {i : Instr} (h : decodeToken (decodeWord p t) = .ok i) :
    (t.fail = true ∧ p.reading = true ∧ i = .fail p t.byte) ∨ (t.fail = false ∧ decodeByte p t.byte = .ok i) := by
  rw [decodeToken_decodeWord] at h
  cases hf : t.fail <;> simp [hf, decodeFail] at h ⊢
  · exact h
  · by_cases hr : p.reading = true <;> simp [hr] at h ⊢
    exact h.symm

/-- The four codes of two bits. -/
theorem bitVec2_cases (c : BitVec 2) : c = 0#2 ∨ c = 1#2 ∨ c = 2#2 ∨ c = 3#2 := by revert c; decide

/-- What an event code selects: the inversion of `decodeEvent`. -/
theorem decodeEvent_ok {h : HostWord} {i : Instr} (hd : decodeEvent h = .ok i) :
    (h.ev = 0b01#2 ∧ i = .pull) ∨ (h.ev = 0b10#2 ∧ i = .take) ∨
    (h.ev = 0b11#2 ∧ i = .reset (Mode.ofCode h.cfgMode) h.cfgRotTarget) := by
  obtain ⟨ev, m, r⟩ := h
  rcases bitVec2_cases ev with rfl | rfl | rfl | rfl <;> simp [decodeEvent] at hd <;> simp [← hd]

end Sys2Proof
end

