-- ==== Sys2Proof/Laws/Float64.lean ====
section
/-! SUPPORT. The laws of the binary64 core: fields of a packed value, the order of the encodings, and one lemma that says
what `roundMag` does, from which exactness and monotonicity follow. -/

namespace Sys2Proof.F64

theorem mag_lt (x : F64) : mag x < 2 ^ 63 := Nat.mod_lt _ (by decide)

/-- The sign bit as a bound on the encoding. -/
theorem neg?_eq (x : F64) : neg? x = decide (2 ^ 63 ≤ x.bits.toNat) := by
  simp [neg?, BitVec.msb_eq_decide]

theorem neg?_pack (n : Bool) (m : Nat) (h : m < 2 ^ 63) : neg? (pack n m) = n := by
  rw [neg?_eq]
  cases n <;> simp [pack] <;> omega

theorem mag_pack (n : Bool) (m : Nat) (h : m < 2 ^ 63) : mag (pack n m) = m := by
  cases n <;> simp [mag, pack] <;> omega

/-- A value is its sign and its magnitude fields. -/
theorem pack_neg?_mag (x : F64) : pack (neg? x) (mag x) = x := by
  obtain ⟨b⟩ := x
  have := b.isLt
  rw [neg?_eq]
  simp only [pack, mag, F64.mk.injEq]
  apply BitVec.eq_of_toNat_eq
  simp only [decide_eq_true_eq, BitVec.toNat_ofNat]
  split_ifs <;> omega

theorem neg?_negate (x : F64) : neg? (negate x) = !neg? x := neg?_pack _ _ (mag_lt x)

theorem mag_negate (x : F64) : mag (negate x) = mag x := mag_pack _ _ (mag_lt x)

/-- A significand of at most 53 bits at exponent `e`, as exponent and fraction fields. -/
theorem unitsOf_encode (e k : Nat) (hk : k < 2 ^ 53) (h : e = 0 ∨ 2 ^ 52 ≤ k) :
    unitsOf (e * 2 ^ 52 + k) = k * 2 ^ e := by
  unfold unitsOf
  by_cases hs : k < 2 ^ 52
  · have he : e = 0 := by omega
    subst he
    rw [if_pos (by omega)]; omega
  · have hd : (e * 2 ^ 52 + k) / 2 ^ 52 = e + 1 := by omega
    have hm : (e * 2 ^ 52 + k) % 2 ^ 52 = k - 2 ^ 52 := by omega
    rw [hd, hm, if_neg (by omega)]
    simp only [Nat.add_sub_cancel]
    rw [show 2 ^ 52 + (k - 2 ^ 52) = k by omega]

/-- The next encoding is one unit of the last place further, across a carry as well. -/
theorem unitsOf_encode_succ (e k : Nat) (hk : k < 2 ^ 53) (h : e = 0 ∨ 2 ^ 52 ≤ k) :
    unitsOf (e * 2 ^ 52 + k + 1) = (k + 1) * 2 ^ e := by
  by_cases hc : k + 1 < 2 ^ 53
  · rw [add_assoc]; exact unitsOf_encode e (k + 1) hc (by omega)
  · have hk' : k + 1 = 2 ^ 53 := by omega
    have := unitsOf_encode (e + 1) (2 ^ 52) (by omega) (by omega)
    rw [show e * 2 ^ 52 + k + 1 = (e + 1) * 2 ^ 52 + 2 ^ 52 by omega, this, hk', pow_succ]
    ring

/-- Every encoding splits into an exponent and a significand. -/
theorem encode_split (m : Nat) : ∃ e k, m = e * 2 ^ 52 + k ∧ k < 2 ^ 53 ∧ (e = 0 ∨ 2 ^ 52 ≤ k) := by
  by_cases h : m < 2 ^ 53
  · exact ⟨0, m, by omega, h, .inl rfl⟩
  · exact ⟨m / 2 ^ 52 - 1, m % 2 ^ 52 + 2 ^ 52, by omega, by omega, by omega⟩

/-- The encodings are ordered as the magnitudes. -/
theorem unitsOf_strictMono : StrictMono unitsOf := by
  apply strictMono_nat_of_lt_succ
  intro m
  obtain ⟨e, k, rfl, hk, h⟩ := encode_split m
  rw [unitsOf_encode e k hk h, unitsOf_encode_succ e k hk h]
  exact Nat.mul_lt_mul_of_pos_right (by omega) (by positivity)

theorem unitsOf_zero : unitsOf 0 = 0 := by decide

theorem unitsOf_eq_zero (m : Nat) : unitsOf m = 0 ↔ m = 0 := by
  rw [← unitsOf_zero]; exact unitsOf_strictMono.injective.eq_iff

/-- The exponent `roundMag` takes keeps the quotient's leading 53 bits. -/
theorem dropBits_spec (q : Nat) :
    q / 2 ^ dropBits q < 2 ^ 53 ∧ (dropBits q = 0 ∨ 2 ^ 52 ≤ q / 2 ^ dropBits q) := by
  unfold dropBits
  by_cases hq : q < 2 ^ 53
  · have h : Nat.log2 q - 52 = 0 := by
      by_cases h0 : q = 0
      · subst h0; decide
      · have := (Nat.log2_lt h0).2 hq; omega
    simp [h]; omega
  · have h0 : q ≠ 0 := by omega
    have hlo := Nat.log2_self_le h0
    have hhi := Nat.lt_log2_self (n := q)
    have hl : 53 ≤ Nat.log2 q := (Nat.le_log2 h0).2 (by omega)
    refine ⟨?_, .inr ?_⟩
    · rw [Nat.div_lt_iff_lt_mul (by positivity), ← pow_add]
      rwa [show 53 + (Nat.log2 q - 52) = Nat.log2 q + 1 by omega]
    · rw [Nat.le_div_iff_mul_le (by positivity), ← pow_add]
      rwa [show 52 + (Nat.log2 q - 52) = Nat.log2 q by omega]

/-- `divEven` takes the floor below the midpoint, its successor above it, and the even one of the two on it. -/
theorem divEven_eq (n d : Nat) (hd : 0 < d) :
    divEven n d = if 2 * n < (2 * (n / d) + 1) * d ∨ (2 * n = (2 * (n / d) + 1) * d ∧ (n / d) % 2 = 0)
      then n / d else n / d + 1 := by
  have hdm := Nat.div_add_mod n d
  have hlt := Nat.mod_lt n hd
  have hx : (2 * (n / d) + 1) * d = 2 * (d * (n / d)) + d := by ring
  unfold divEven
  rw [hx]
  generalize n % d = r at *
  generalize n / d = k at *
  generalize d * k = p at *
  by_cases h1 : d < 2 * r
  · simp [h1]; omega
  · by_cases h2 : 2 * r = d <;> rcases Nat.mod_two_eq_zero_or_one k with h3 | h3 <;> simp [h1, h2, h3] <;> omega

/-- The exponent field added outside or inside the choice of the significand. -/
theorem add_ite_succ (c : Prop) [Decidable c] (x k : Nat) :
    x + (if c then k else k + 1) = if c then x + k else x + k + 1 := by
  split <;> rfl

/-- What rounding does: `n / d` lies between two neighbouring encodings, and the nearer one is taken, on a tie the even
one, with everything from infinity up saturated. -/
theorem roundMag_spec (n d : Nat) (hd : 0 < d) :
    ∃ m, unitsOf m * d ≤ n ∧ n < unitsOf (m + 1) * d ∧
      roundMag n d = min infMag
        (if 2 * n < (unitsOf m + unitsOf (m + 1)) * d ∨
            (2 * n = (unitsOf m + unitsOf (m + 1)) * d ∧ m % 2 = 0) then m else m + 1) := by
  set e := dropBits (n / d) with he
  obtain ⟨hk, hz⟩ := dropBits_spec (n / d)
  rw [← he, Nat.div_div_eq_div_mul] at hk hz
  set k := n / (d * 2 ^ e) with hkd
  have hD : 0 < d * 2 ^ e := by positivity
  have h1 := unitsOf_encode e k hk hz
  have h2 := unitsOf_encode_succ e k hk hz
  refine ⟨e * 2 ^ 52 + k, ?_, ?_, ?_⟩
  · rw [h1, mul_assoc, mul_comm (2 ^ e) d]
    exact Nat.div_mul_le_self _ _
  · rw [h2, mul_assoc, mul_comm (2 ^ e) d]
    exact Nat.lt_mul_of_div_lt (Nat.lt_succ_self _) hD
  · have hsum : (unitsOf (e * 2 ^ 52 + k) + unitsOf (e * 2 ^ 52 + k + 1)) * d = (2 * k + 1) * (d * 2 ^ e) := by
      rw [h1, h2]; ring
    have hpar : (e * 2 ^ 52 + k) % 2 = k % 2 := by omega
    unfold roundMag
    simp only []
    rw [← he, divEven_eq n _ hD, ← hkd, hsum, hpar]
    rw [add_ite_succ]

/-- A representable magnitude is not changed by rounding. -/
theorem roundMag_exact (m d : Nat) (hd : 0 < d) (hm : m ≤ infMag) : roundMag (unitsOf m * d) d = m := by
  obtain ⟨m', h1, h2, h3⟩ := roundMag_spec (unitsOf m * d) d hd
  have h1' := unitsOf_strictMono.le_iff_le.1 (Nat.le_of_mul_le_mul_right h1 hd)
  have h2' := unitsOf_strictMono.lt_iff_lt.1 (Nat.lt_of_mul_lt_mul_right h2)
  have e : m' = m := by omega
  subst e
  rw [h3, if_pos, min_eq_right hm]
  left
  have := unitsOf_strictMono (Nat.lt_succ_self m')
  nlinarith

/-- A larger quotient does not round to a smaller magnitude. -/
theorem roundMag_mono {n d n' d' : Nat} (hd : 0 < d) (hd' : 0 < d') (h : n * d' ≤ n' * d) :
    roundMag n d ≤ roundMag n' d' := by
  obtain ⟨a, a1, a2, a3⟩ := roundMag_spec n d hd
  obtain ⟨b, b1, b2, b3⟩ := roundMag_spec n' d' hd'
  rw [a3, b3]
  apply min_le_min_left
  have hab : a ≤ b := by
    by_contra hc
    have hu := unitsOf_strictMono.monotone (show b + 1 ≤ a by omega)
    have : n' * d < n * d' := by
      calc n' * d < unitsOf (b + 1) * d' * d := Nat.mul_lt_mul_of_pos_right b2 hd
        _ ≤ unitsOf a * d' * d := Nat.mul_le_mul_right _ (Nat.mul_le_mul_right _ hu)
        _ = unitsOf a * d * d' := by ring
        _ ≤ n * d' := Nat.mul_le_mul_right _ a1
    omega
  rcases Nat.lt_or_eq_of_le hab with hlt | rfl
  · split <;> split <;> omega
  · set S := unitsOf a + unitsOf (a + 1) with hS
    by_cases hx : 2 * n < S * d ∨ (2 * n = S * d ∧ a % 2 = 0)
    · rw [if_pos hx]; split <;> omega
    · have hy : ¬(2 * n' < S * d' ∨ (2 * n' = S * d' ∧ a % 2 = 0)) := by
        intro hc
        apply hx
        have key : 2 * n' ≤ S * d' := by omega
        have k2 : 2 * n * d' ≤ S * d * d' := by
          calc 2 * n * d' = 2 * (n * d') := by ring
            _ ≤ 2 * (n' * d) := by omega
            _ = 2 * n' * d := by ring
            _ ≤ S * d' * d := Nat.mul_le_mul_right _ key
            _ = S * d * d' := by ring
        have k3 : 2 * n ≤ S * d := Nat.le_of_mul_le_mul_right k2 hd'
        rcases hc with hc | ⟨-, hp⟩
        · left
          have : 2 * n * d' < S * d * d' := by
            calc 2 * n * d' = 2 * (n * d') := by ring
              _ ≤ 2 * (n' * d) := by omega
              _ = 2 * n' * d := by ring
              _ < S * d' * d := Nat.mul_lt_mul_of_pos_right hc hd
              _ = S * d * d' := by ring
          exact Nat.lt_of_mul_lt_mul_right this
        · omega
      rw [if_neg hx, if_neg hy]

theorem roundMag_le_infMag (n d : Nat) : roundMag n d ≤ infMag := Nat.min_le_left _ _

theorem infMag_lt : infMag < 2 ^ 63 := by decide

theorem roundMag_lt (n d : Nat) : roundMag n d < 2 ^ 63 := lt_of_le_of_lt (roundMag_le_infMag n d) infMag_lt

/-- Zero rounds to zero. -/
theorem roundMag_zero (d : Nat) (hd : 0 < d) : roundMag 0 d = 0 := by
  have := roundMag_exact 0 d hd (Nat.zero_le _)
  rwa [unitsOf_zero, zero_mul] at this

/-- The value of an exponent field and a fraction, in units of 2^-1074. -/
theorem fields_value (e f : Nat) :
    (if e = 0 then (f : ℚ) * (2 : ℚ) ^ (-1074 : ℤ) else ((2 ^ 52 + f : ℕ) : ℚ) * (2 : ℚ) ^ ((e : ℤ) - 1075))
      = ((if e = 0 then f else (2 ^ 52 + f) * 2 ^ (e - 1) : ℕ) : ℚ) / 2 ^ 1074 := by
  by_cases h : e = 0
  · rw [if_pos h, if_pos h, zpow_neg, div_eq_mul_inv]; norm_cast
  · obtain ⟨e', rfl⟩ : ∃ e', e = e' + 1 := ⟨e - 1, by omega⟩
    rw [if_neg h, if_neg h, Nat.add_sub_cancel, Nat.cast_mul, Nat.cast_pow, mul_div_assoc]
    congr 1
    rw [show (((e' + 1 : ℕ) : ℤ) - 1075) = (e' : ℤ) - (1074 : ℕ) by push_cast; ring,
      zpow_sub₀ (by norm_num), zpow_natCast, zpow_natCast]
    norm_cast

/-- The rational value is the signed number of units of 2^-1074. -/
theorem val_eq (x : F64) : val x = (signedUnits x : ℚ) / 2 ^ 1074 := by
  obtain ⟨b⟩ := x
  have he : (b.extractLsb' 52 11).toNat = b.toNat % 2 ^ 63 / 2 ^ 52 := by
    rw [BitVec.extractLsb'_toNat, Nat.shiftRight_eq_div_pow]; omega
  have hf : (b.extractLsb' 0 52).toNat = b.toNat % 2 ^ 63 % 2 ^ 52 := by
    rw [BitVec.extractLsb'_toNat, Nat.shiftRight_eq_div_pow]; omega
  have hs : b.getLsbD 63 = neg? ⟨b⟩ := by simp [neg?, BitVec.msb_eq_getLsbD_last]
  have hu : (if (b.extractLsb' 52 11).toNat = 0 then
        ((b.extractLsb' 0 52).toNat : ℚ) * (2 : ℚ) ^ (-1074 : ℤ)
      else ((2 ^ 52 + (b.extractLsb' 0 52).toNat : ℕ) : ℚ) * (2 : ℚ) ^ (((b.extractLsb' 52 11).toNat : ℤ) - 1075))
      = (units ⟨b⟩ : ℚ) / 2 ^ 1074 := by
    rw [he, hf]; exact fields_value _ _
  unfold val signedUnits
  simp only [hs]
  rw [hu]
  cases neg? ⟨b⟩ <;> simp [neg_div]

/-- Infinity's place in the order of encodings, 2^1024. -/
theorem unitsOf_infMag : unitsOf infMag = 2 ^ 54 * 2 ^ 2044 := by
  have := unitsOf_encode 2046 (2 ^ 52) (by norm_num) (.inr le_rfl)
  rw [show infMag = 2046 * 2 ^ 52 + 2 ^ 52 by norm_num [infMag], this, ← pow_add, ← pow_add]

/-- The largest finite magnitude, 2^1024 - 2^971. -/
theorem unitsOf_infMag_pred : unitsOf (infMag - 1) = (2 ^ 54 - 2) * 2 ^ 2044 := by
  have := unitsOf_encode 2045 (2 ^ 53 - 1) (by norm_num) (.inr (by norm_num))
  rw [show infMag - 1 = 2045 * 2 ^ 52 + (2 ^ 53 - 1) by norm_num [infMag], this,
    show (2:ℕ) ^ 2045 = 2 * 2 ^ 2044 by rw [← pow_succ'], ← mul_assoc, show (2 ^ 53 - 1) * 2 = 2 ^ 54 - 2 by norm_num]

/-- From the overflow bound on, rounding gives infinity. -/
theorem roundMag_overflow (n d : Nat) (hd : 0 < d) (h : (2 ^ 54 - 1) * 2 ^ 2044 * d ≤ n) : roundMag n d = infMag := by
  obtain ⟨m, h1, h2, h3⟩ := roundMag_spec n d hd
  have u1 := unitsOf_infMag
  have u2 := unitsOf_infMag_pred
  generalize (2:ℕ) ^ 2044 = P at *
  have hm : infMag - 1 ≤ m := by
    have : unitsOf (infMag - 1) < unitsOf (m + 1) := by
      rw [u2]
      refine Nat.lt_of_mul_lt_mul_right (a := d) (lt_of_le_of_lt ?_ h2)
      refine le_trans (Nat.mul_le_mul_right _ (Nat.mul_le_mul_right _ (by norm_num))) h
    have := unitsOf_strictMono.lt_iff_lt.1 this
    omega
  rw [h3]
  by_cases hm' : m = infMag - 1
  · subst hm'
    have hi : infMag - 1 + 1 = infMag := by norm_num [infMag]
    rw [hi, u1, u2]
    rw [if_neg, Nat.min_self]
    have e : ((2 ^ 54 - 2) * P + 2 ^ 54 * P) * d = 2 * ((2 ^ 54 - 1) * P * d) := by ring_nf
    rw [e]
    have : (infMag - 1) % 2 = 1 := by norm_num [infMag]
    omega
  · apply Nat.min_eq_left
    split <;> omega

/-- A value is zero exactly when its units are. -/
theorem val_eq_zero (x : F64) : val x = 0 ↔ units x = 0 := by
  rw [val_eq, div_eq_zero_iff]
  have : (2:ℚ) ^ 1074 ≠ 0 := by positivity
  simp only [this, or_false, signedUnits]
  split <;> simp

theorem units_eq_zero (x : F64) : units x = 0 ↔ mag x = 0 := unitsOf_eq_zero _

/-- A finite value is no NaN. -/
theorem isNaN_of_isFinite {x : F64} (h : isFinite x = true) : isNaN x = false := by
  simp [isFinite, isNaN] at *; omega

/-- A finite value is no infinity. -/
theorem isInf_of_isFinite {x : F64} (h : isFinite x = true) : isInf x = false := by
  simp [isFinite, isInf] at *; omega

/-- An infinity is no NaN. -/
theorem isNaN_of_isInf {x : F64} (h : isInf x = true) : isNaN x = false := by
  simp [isInf, isNaN] at *; omega

/-- The free NaN is a NaN, whatever its free bits are. -/
theorem isNaN_nan (o x y) : isNaN (nan o x y) = true := by
  unfold nan isNaN
  simp only []
  rw [mag_pack]
  · simp; omega
  · have := Nat.mod_lt (Config.freeNan o x.bits y.bits).toNat (show 2 ^ 51 > 0 by norm_num)
    unfold infMag; omega

@[simp] theorem isNaN_negate (x : F64) : isNaN (negate x) = isNaN x := by simp [isNaN, mag_negate]

@[simp] theorem isInf_negate (x : F64) : isInf (negate x) = isInf x := by simp [isInf, mag_negate]

@[simp] theorem isFinite_negate (x : F64) : isFinite (negate x) = isFinite x := by simp [isFinite, mag_negate]

@[simp] theorem units_negate (x : F64) : units (negate x) = units x := by simp [units, mag_negate]

/-- Negation changes the sign of the value. -/
theorem signedUnits_negate (x : F64) : signedUnits (negate x) = - signedUnits x := by
  simp only [signedUnits, units_negate, neg?_negate]; cases neg? x <;> simp

theorem val_negate (x : F64) : val (negate x) = - val x := by
  rw [val_eq, val_eq, signedUnits_negate]; push_cast; ring

/-- The magnitude as a rational. -/
theorem abs_val (x : F64) : |val x| = (units x : ℚ) / 2 ^ 1074 := by
  rw [val_eq, abs_div, abs_of_pos (show (0:ℚ) < 2 ^ 1074 by positivity)]
  congr 1
  unfold signedUnits; split <;> simp

/-- An infinity is not zero. -/
theorem units_ne_zero_of_isInf {x : F64} (h : isInf x = true) : units x ≠ 0 := by
  rw [Ne, units_eq_zero]; simp [isInf] at h; rw [h]; norm_num [infMag]

/-- The finite case of each operation. -/
theorem add_of_isFinite {x y : F64} (hx : isFinite x = true) (hy : isFinite y = true) :
    add x y = roundSum (signedUnits x + signedUnits y) (neg? x && neg? y) := by
  simp [add, isNaN_of_isFinite hx, isNaN_of_isFinite hy, isInf_of_isFinite hx, isInf_of_isFinite hy]

theorem mul_of_isFinite {x y : F64} (hx : isFinite x = true) (hy : isFinite y = true) :
    mul x y = pack (neg? x != neg? y) (roundMag (units x * units y) (2 ^ 1074)) := by
  simp [mul, isNaN_of_isFinite hx, isNaN_of_isFinite hy, isInf_of_isFinite hx, isInf_of_isFinite hy]

theorem div_of_isFinite {x y : F64} (hx : isFinite x = true) (hy : isFinite y = true) (h : units y ≠ 0) :
    div x y = pack (neg? x != neg? y) (roundMag (units x * 2 ^ 1074) (units y)) := by
  simp [div, isNaN_of_isFinite hx, isNaN_of_isFinite hy, isInf_of_isFinite hx, isInf_of_isFinite hy, h]

/-- A rational of magnitude `n / d` units that is not in range is at or above the overflow bound. -/
theorem le_of_not_inRange (q : ℚ) (n d : ℕ) (hd : 0 < d) (hq : |q| = (n : ℚ) / d / 2 ^ 1074) (h : ¬ InRange q) :
    (2 ^ 54 - 1) * 2 ^ 2044 * d ≤ n := by
  unfold InRange at h
  rw [not_lt, hq, le_div_iff₀ (by positivity), le_div_iff₀ (by positivity)] at h
  have e1 : (2:ℚ) ^ 1024 = 2 ^ 54 * 2 ^ 970 := by rw [← pow_add]
  have e2 : (2:ℚ) ^ 2044 = 2 ^ 970 * 2 ^ 1074 := by rw [← pow_add]
  have : (((2 ^ 54 - 1) * 2 ^ 2044 * d : ℕ) : ℚ) ≤ n := by
    refine le_trans (le_of_eq ?_) h
    rw [Nat.cast_mul, Nat.cast_mul, Nat.cast_pow, Nat.cast_sub (by norm_num), e1]
    push_cast
    rw [e2]
    generalize (2:ℚ) ^ 970 = a
    generalize (2:ℚ) ^ 1074 = b
    ring
  exact_mod_cast this

/-- Rounding the magnitude of a rational that is not in range gives infinity. -/
theorem roundMag_of_not_inRange (q : ℚ) (n d : ℕ) (hd : 0 < d) (hq : |q| = (n : ℚ) / d / 2 ^ 1074)
    (h : ¬InRange q) : roundMag n d = infMag :=
  roundMag_overflow n d hd (le_of_not_inRange q n d hd hq h)

end Sys2Proof.F64
end

