-- ==== Sys2Proof/Laws/Operands.lean ====
section
/-! SUPPORT. The operand forms as numbers: the info byte's fields and the byte lanes of a 16-bit field (R82, R83). -/

namespace Sys2Proof.Machine

theorem infoType_toNat (b : Byte) : (infoType b).toNat = b.toNat / 32 := by
  have := b.isLt
  rw [infoType, BitVec.extractLsb'_toNat, Nat.shiftRight_eq_div_pow]; omega

theorem infoLen_toNat (b : Byte) : (infoLen b).toNat = b.toNat % 32 := by
  rw [infoLen, BitVec.extractLsb'_toNat]; rfl

/-- Concatenating two bytes, the first the more significant one (R83). -/
theorem append_bytes_toNat (h l : Byte) : (h ++ l : BitVec (8 + 8)).toNat = h.toNat * 256 + l.toNat := by
  rw [BitVec.toNat_append, ← Nat.shiftLeft_add_eq_or_of_lt l.isLt, Nat.shiftLeft_eq]

theorem setLow_toNat (r : U16) (b : Byte) : (setLow r b).toNat = r.toNat / 256 * 256 + b.toNat := by
  have h := append_bytes_toNat (r.extractLsb' 8 8) b
  have := r.isLt
  rw [BitVec.extractLsb'_toNat, Nat.shiftRight_eq_div_pow] at h
  exact h.trans (by omega)

theorem setHigh_toNat (r : U16) (b : Byte) : (setHigh r b).toNat = b.toNat * 256 + r.toNat % 256 := by
  have h := append_bytes_toNat b (r.extractLsb' 0 8)
  rw [BitVec.extractLsb'_toNat] at h
  exact h

theorem lowByte_toNat (r : U16) : (lowByte r).toNat = r.toNat % 256 := by
  rw [lowByte, BitVec.extractLsb'_toNat]; rfl

@[simp] theorem lowByte_setLow (r : U16) (b : Byte) : lowByte (setLow r b) = b := by
  apply BitVec.eq_of_toNat_eq
  have := b.isLt
  rw [lowByte_toNat, setLow_toNat]; omega

/-- `R[15:8] <- b` reads the low byte of `R` only. -/
theorem setHigh_congr {r r' : U16} (h : lowByte r = lowByte r') (b : Byte) : setHigh r b = setHigh r' b := by
  unfold setHigh; unfold lowByte at h; rw [h]

/-- The two bytes of a value, low first, give the value back whatever the register held (R64, R83). -/
theorem setHigh_setLow (r v : U16) : setHigh (setLow r (v.extractLsb' 0 8)) (v.extractLsb' 8 8) = v := by
  apply BitVec.eq_of_toNat_eq
  have := v.isLt
  rw [setHigh_toNat, setLow_toNat, BitVec.extractLsb'_toNat, BitVec.extractLsb'_toNat, Nat.shiftRight_eq_div_pow]
  omega

end Sys2Proof.Machine
end

