-- ==== Sys2Proof/Laws/PerInstr.lean ====
section
/-! SUPPORT. Per-instruction laws. Family FixedBits: the encoding of each instruction has the fixed bits that its row of
spec/opcode_table.json gives (30_encoding.md R90, R91, R93). -/

namespace Sys2Proof.Laws.FixedBits

/-- The instruction's token word matches its row's mask and match; its event word has its row's event code. -/
def Statement (i : Instr) : Prop :=
  match encode i with
  | .token dw => ∃ r ∈ tokenTable, r.op = i.op ∧ r.matches dw = true
  | .event h => (i.op, h.ev) ∈ [(Op.pull, 0b01#2), (Op.take, 0b10#2), (Op.reset, 0b11#2)]

/-- A decode word's fixed bits do not depend on its byte. -/
theorem matches_of_phase (p : Phase) (bits : BitVec 13) (op : Op) (n : Nat)
    (h : (decodeWord p { fail := false, byte := 0 }) = bits) (b : Byte) :
    TableRow.matches ⟨op, bits, 0x1F00, n⟩ (byteWord p b) = true := by
  subst h
  simp only [TableRow.matches, byteWord, beq_iff_eq]
  revert b
  cases p <;> decide

theorem huntSync : Statement .huntSync := ⟨⟨.huntSync, 0x0054, 0x1FFF, 0⟩, by decide, rfl, by decide⟩

theorem huntSkip (b : Byte) : Statement (.huntSkip b) :=
  ⟨⟨.huntSkip, 0x0000, 0x1F00, 1⟩, by decide, rfl, matches_of_phase .hunt _ _ _ (by decide) b⟩

theorem info (b : Byte) : Statement (.info b) :=
  ⟨⟨.info, 0x0200, 0x1F00, 0⟩, by decide, rfl, matches_of_phase .info _ _ _ (by decide) b⟩

theorem spdL (b : Byte) : Statement (.spdL b) :=
  ⟨⟨.spdL, 0x0400, 0x1F00, 0⟩, by decide, rfl, matches_of_phase .spdL _ _ _ (by decide) b⟩

theorem spdH (b : Byte) : Statement (.spdH b) :=
  ⟨⟨.spdH, 0x0600, 0x1F00, 0⟩, by decide, rfl, matches_of_phase .spdH _ _ _ (by decide) b⟩

theorem staL (b : Byte) : Statement (.staL b) :=
  ⟨⟨.staL, 0x0800, 0x1F00, 0⟩, by decide, rfl, matches_of_phase .staL _ _ _ (by decide) b⟩

theorem staH (b : Byte) : Statement (.staH b) :=
  ⟨⟨.staH, 0x0A00, 0x1F00, 0⟩, by decide, rfl, matches_of_phase .staH _ _ _ (by decide) b⟩

theorem dstL (b : Byte) : Statement (.dstL b) :=
  ⟨⟨.dstL, 0x0C00, 0x1F00, 0⟩, by decide, rfl, matches_of_phase .dstL _ _ _ (by decide) b⟩

theorem dstH (b : Byte) : Statement (.dstH b) :=
  ⟨⟨.dstH, 0x0E00, 0x1F00, 0⟩, by decide, rfl, matches_of_phase .dstH _ _ _ (by decide) b⟩

theorem int (b : Byte) : Statement (.int b) :=
  ⟨⟨.int, 0x1000, 0x1F00, 0⟩, by decide, rfl, matches_of_phase .int _ _ _ (by decide) b⟩

theorem endL (b : Byte) : Statement (.endL b) :=
  ⟨⟨.endL, 0x1200, 0x1F00, 0⟩, by decide, rfl, matches_of_phase .endL _ _ _ (by decide) b⟩

theorem endH (b : Byte) : Statement (.endH b) :=
  ⟨⟨.endH, 0x1400, 0x1F00, 0⟩, by decide, rfl, matches_of_phase .endH _ _ _ (by decide) b⟩

theorem tsL (b : Byte) : Statement (.tsL b) :=
  ⟨⟨.tsL, 0x1600, 0x1F00, 0⟩, by decide, rfl, matches_of_phase .tsL _ _ _ (by decide) b⟩

theorem tsH (b : Byte) : Statement (.tsH b) :=
  ⟨⟨.tsH, 0x1800, 0x1F00, 0⟩, by decide, rfl, matches_of_phase .tsH _ _ _ (by decide) b⟩

theorem csum (b : Byte) : Statement (.csum b) :=
  ⟨⟨.csum, 0x1A00, 0x1F00, 0⟩, by decide, rfl, matches_of_phase .csum _ _ _ (by decide) b⟩

theorem fail (p : Phase) (b : Byte) : Statement (.fail p b) := by
  refine ⟨⟨.fail, 0x0100, 0x0100, 0⟩, by decide, rfl, ?_⟩
  simp only [TableRow.matches, beq_iff_eq]
  revert b
  cases p <;> decide

theorem pull : Statement .pull := by simp [Statement, encode, plainEvent, Instr.op]

theorem take : Statement .take := by simp [Statement, encode, plainEvent, Instr.op]

theorem reset (m : Mode) (rot : BitVec 32) : Statement (.reset m rot) := by simp [Statement, encode, Instr.op]

end Sys2Proof.Laws.FixedBits
end

