-- ==== Sys2Proof/Laws/Step.lean ====
section
/-! SUPPORT. What the shared operations and one step can do, said once; later proofs cite these lemmas instead of
unfolding the step. -/

namespace Sys2Proof.Machine

theorem State.running_iff (s : State) : s.running = true ↔ s.fault = none ∧ s.refused = false := by
  simp [State.running]

theorem State.inReady_iff (s : State) :
    s.inReady = true ↔ s.req = true ∧ s.phase.reading = true ∧ s.fault = none ∧ s.refused = false := by
  simp [State.inReady, State.running_iff, and_assoc]

theorem pullAllowed_iff (s : State) :
    pullAllowed s = true ↔ s.req = false ∧ s.out = none ∧ s.fault = none ∧ s.refused = false := by
  simp [pullAllowed, State.running_iff, and_assoc]

theorem resetAllowed_iff (m : Mode) (rot : BitVec 32) :
    resetAllowed m rot = true ↔ ¬(m = .rotations ∧ rot = 0#32) := by
  simp [resetAllowed, imp_iff_not_or]

/-- Reading PT_DIST after a write of PT_DIST[IDX]. -/
theorem setCurDist_get (d : U16) (s : State) (k : Fin 31) :
    (s.setCurDist d).ptDist.get k = if k = s.idx then d else s.ptDist.get k := by
  simp only [State.setCurDist, Vector.get_eq_getElem, Vector.getElem_set, Fin.ext_iff, eq_comm]

/-- Reading PT_INT after a write of PT_INT[IDX]. -/
theorem setCurInt_get (b : Byte) (s : State) (k : Fin 31) :
    (s.setCurInt b).ptInt.get k = if k = s.idx then b else s.ptInt.get k := by
  simp only [State.setCurInt, Vector.get_eq_getElem, Vector.getElem_set, Fin.ext_iff, eq_comm]

/-- `PT_DIST[IDX]` after it is written. -/
@[simp] theorem curDist_setCurDist (d : U16) (s : State) : (s.setCurDist d).curDist = d := by
  simp only [State.curDist, State.setCurDist_idx, setCurDist_get, if_true]

/-- The error entry: Err and IDLE in SINGLE mode, End and TERM with the sequence state dropped in the others. -/
theorem raiseTransportError_cases (s : State) :
    (s.mode = .single ∧ raiseTransportError s = (s.deliver .err).setPhase .idle) ∨
    (s.mode ≠ .single ∧ raiseTransportError s = (s.dropSequence.deliver .seqEnd).setPhase .term) := by
  unfold raiseTransportError
  cases s.mode <;> simp

/-- The dispatch of a completed frame in each mode (R174, R192 to R194). -/
theorem dispatchFrame_cases (f : Frame) (s : State) :
    ((s.mode = .single ∨ s.mode = .frames) ∧ dispatchFrame f s = (s.deliver (.frame f)).setPhase .idle) ∨
    (s.mode = .points ∧ f.points = [] ∧ dispatchFrame f s = (s.setPbuf [] 0).setPhase .hunt) ∨
    (s.mode = .points ∧ ∃ p ps, f.points = p :: ps ∧
      dispatchFrame f s = ((s.setPbuf (p :: ps) 1).deliver (.point p)).setPhase .idle) ∨
    (s.mode = .rotations ∧ dispatchFrame f s = rotFrame f s) := by
  unfold dispatchFrame
  cases hm : s.mode <;> simp [deliverFrame, deliverPoints]
  cases hf : f.points <;> simp

/-- RotFrame overflows, emits a batch, or goes on hunting (R211). -/
theorem rotFrame_cases (f : Frame) (s : State) :
    (overflows s f.len.toNat = true ∧ rotFrame f s = s.overflow) ∨
    (overflows s f.len.toNat = false ∧ batchDue (s.accumulate f).covered s.rotTarget = true ∧
      rotFrame f s = (s.accumulate f).emitBatch) ∨
    (overflows s f.len.toNat = false ∧ batchDue (s.accumulate f).covered s.rotTarget = false ∧
      rotFrame f s = (s.accumulate f).setPhase .hunt) := by
  have hr : (s.accumulate f).rotTarget = s.rotTarget := rfl
  unfold rotFrame
  cases ho : overflows s f.len.toNat <;> simp [hr]
  cases hb : batchDue (s.accumulate f).covered s.rotTarget <;> simp

/-- A bounded PENDING_CAP is exceeded exactly when the points do not fit (R216). -/
theorem overflows_iff (s : State) (n : Nat) :
    overflows s n = true ↔ ∃ cap, s.pendingCap = some cap ∧ cap < s.pending.length + n := by
  unfold overflows; cases s.pendingCap <;> simp

@[simp] theorem framePoints_length (s : State) : (framePoints s).length = s.len.toNat := by simp [framePoints]

@[simp] theorem completedFrame_points (s : State) : (completedFrame s).points = framePoints s := rfl

@[simp] theorem completedFrame_len (s : State) : (completedFrame s).len = s.len := rfl

@[simp] theorem completedFrame_header (s : State) : (completedFrame s).header = Config.syncByte := rfl

/-- Point `k` of the frame in the registers (R172). -/
theorem framePoints_getElem? (s : State) (k : Fin 31) (h : k.val < s.len.toNat) :
    (framePoints s)[k.val]? = some
      { distance := s.ptDist.get k, intensity := s.ptInt.get k
        angle := pointAngle (degrees s.startRaw) (increment s.len (degrees s.startRaw) (degrees s.endRaw)) k.val } := by
  simp [framePoints, pointAt, h, Vector.get_eq_getElem]

/-- A PULL delivers End, delivers a waiting point, or begins a decode (R190). -/
theorem pull_cases (s : State) :
    (s.phase = .term ∧ s.pull = s.deliver .seqEnd) ∨
    (s.phase ≠ .term ∧ ∃ p, waitingPoint s = some p ∧
      s.pull = (s.deliver (.point p)).setPbuf s.pbuf (s.pbNext + 1)) ∨
    (s.phase ≠ .term ∧ waitingPoint s = none ∧ s.pull = s.request.setPhase .hunt) := by
  unfold State.pull
  by_cases hp : s.phase = .term <;> simp [hp]
  cases hw : waitingPoint s <;> simp

/-- A waiting point: POINTS mode with PBUF not exhausted. -/
theorem waitingPoint_iff (s : State) (p : Point) :
    waitingPoint s = some p ↔ s.mode = .points ∧ s.pbuf[s.pbNext]? = some p := by
  unfold waitingPoint; by_cases h : s.mode = .points <;> simp [h]

/-- Every instruction has a next state. -/
theorem exec_next (i : Instr) (s : State) : ∃ t, exec i s = .next t := by
  cases i <;> exact ⟨_, rfl⟩

/-- The engine's step: in_ready, an oldest token, and the operation its decode word selects. -/
theorem fetchToken_some {s s1 : State} {i : Instr} :
    fetchToken s = some (i, s1) ↔
      s.inReady = true ∧ ∃ t rest, s.chan = t :: rest ∧ decodeToken (decodeWord s.phase t) = .ok i ∧
        s1 = s.setChan rest := by
  unfold fetchToken
  cases hr : s.inReady <;> simp
  cases hc : s.chan with
  | nil => simp
  | cons t rest =>
    cases hd : decodeToken (decodeWord s.phase t) with
    | error e => simp [hd]
    | ok j => simp [hd, eq_comm]

/-- In a reading phase every token decodes. -/
theorem decodeToken_reading {p : Phase} (h : p.reading = true) (t : Token) :
    ∃ i, decodeToken (decodeWord p t) = .ok i := by
  rw [decodeToken_decodeWord]
  cases t.fail
  · cases p <;> first | exact ⟨_, rfl⟩ | simp [Phase.reading] at h
  · exact ⟨.fail p t.byte, by simp [decodeFail, h]⟩

/-- The engine has a step exactly when in_ready holds and the transport offers a token (R26, R62). -/
theorem fetchToken_none (s : State) : fetchToken s = none ↔ s.inReady = false ∨ s.chan = [] := by
  unfold fetchToken
  cases hr : s.inReady with
  | false => simp
  | true =>
    cases hc : s.chan with
    | nil => simp
    | cons t rest =>
      obtain ⟨i, hi⟩ := decodeToken_reading ((State.inReady_iff s).1 hr).2.1 t
      simp [hi]

/-- The step takes a token: the operation, and the state in which it runs. -/
def TakesToken (s : State) (i : Instr) (s1 : State) : Prop :=
  ∃ hs t rest, (s.host = [] ∧ hs = [] ∨ ∃ h, s.host = h :: hs ∧ decodeEvent h = .error .noEvent) ∧
    s.inReady = true ∧ s.chan = t :: rest ∧ decodeToken (decodeWord s.phase t) = .ok i ∧
    s1 = (s.setHost hs).setChan rest

/-- The step runs a host event. -/
def TakesEvent (s : State) (i : Instr) (s1 : State) : Prop :=
  ∃ h hs, s.host = h :: hs ∧ decodeEvent h = .ok i ∧ s1 = s.setHost hs

/-- Only the code 0b00 is no event. -/
theorem decodeEvent_error {h : HostWord} {e : DecodeError} (hd : decodeEvent h = .error e) :
    h.ev = 0b00#2 ∧ e = .noEvent := by
  obtain ⟨ev, m, r⟩ := h
  rcases bitVec2_cases ev with rfl | rfl | rfl | rfl <;> simp [decodeEvent] at hd ⊢; exact hd.symm

/-- Everything a step that answers a next state can do: run a host event, run a token operation, or let the consumer's
eventless entry pass because the engine has no step. -/
theorem step_next_cases {s s' : State} (h : step s = .next s') :
    (∃ i s1, TakesEvent s i s1 ∧ exec i s1 = .next s') ∨
    (∃ i s1, TakesToken s i s1 ∧ exec i s1 = .next s') ∨
    (∃ w hs, s.host = w :: hs ∧ decodeEvent w = .error .noEvent ∧ (s.inReady = false ∨ s.chan = []) ∧
      s' = s.setHost hs) := by
  unfold step fetch at h
  cases hh : s.host with
  | nil =>
    cases hf : fetchToken s with
    | none => simp [hh, hf] at h
    | some r =>
      obtain ⟨i, s1⟩ := r
      simp [hh, hf] at h
      obtain ⟨hr, t, rest, hc, hd, rfl⟩ := fetchToken_some.1 hf
      exact .inr (.inl ⟨i, _, ⟨[], t, rest, .inl ⟨hh, rfl⟩, hr, hc, hd, by rw [← hh]; rfl⟩, h⟩)
  | cons w hs =>
    cases hw : decodeEvent w with
    | ok i =>
      simp [hh, hw] at h
      exact .inl ⟨i, _, ⟨w, hs, hh, hw, rfl⟩, h⟩
    | error e =>
      obtain ⟨-, rfl⟩ := decodeEvent_error hw
      cases hf : fetchToken (s.setHost hs) with
      | none =>
        simp [hh, hw, hf] at h
        refine .inr (.inr ⟨w, hs, rfl, hw, ?_, h.symm⟩)
        simpa [State.inReady, State.running] using (fetchToken_none _).1 hf
      | some r =>
        obtain ⟨i, s1⟩ := r
        simp [hh, hw, hf] at h
        obtain ⟨hr, t, rest, hc, hd, rfl⟩ := fetchToken_some.1 hf
        exact .inr (.inl ⟨i, _, ⟨hs, t, rest, .inr ⟨w, hh, hw⟩, hr, hc, hd, rfl⟩, h⟩)

end Sys2Proof.Machine
end

