-- ==== Sys2Proof/Tests/Slice0.lean ====
section
/-! SUPPORT. The model's own tests. Expected values are the spec's: 95_test_vectors.md (the vector's id stands at the test),
the examples of the rules, and the encodings of 30_encoding.md R90 to R93 written out by hand. -/

namespace Sys2Proof.Tests

open Sys2Proof.Machine

/-- The outcome is a next state with the property. -/
def after (o : Host.Outcome State Machine.Fault Refusal) (p : State → Bool) : Bool :=
  match o with
  | .next t => p t
  | .fault _ => false
  | .refused _ => false

/-- A state whose engine waits in phase `p` of a decode. -/
def at_ (m : Mode) (p : Phase) : State := { State.reset with mode := m, phase := p, req := true }

/-- A state in phase CSUM with a frame from `a0` to `a1` (raw) in the registers: point `k` has distance `d k`. -/
def frameAt (m : Mode) (len : BitVec 5) (a0 a1 : U16) (d : List U16) : State :=
  { at_ m .csum with
    len := len, startRaw := a0, endRaw := a1, ptDist := Vector.ofFn fun k => d.getD k.val 0 }

/-! ### Well-formedness -/

/-- HUNT.SKIP is never taken on the sync byte (R111). -/
theorem test_wf_skip_sync : Instr.wf (.huntSkip 0x54) = false := by decide
theorem test_wf_skip_other : Instr.wf (.huntSkip 0x55) = true := by decide
/-- FAIL is never taken in IDLE or TERM (R92). -/
theorem test_wf_fail_idle : Instr.wf (.fail .idle 0) = false := by decide
theorem test_wf_fail_term : Instr.wf (.fail .term 0) = false := by decide
theorem test_wf_fail_csum : Instr.wf (.fail .csum 0) = true := by decide

/-! ### Decoding: words written out as {PHASE, FAIL, BYTE} (R90, R91) and {EV} (R93) -/

theorem test_dec_huntSync : decodeToken 0b0000_0_01010100 = .ok .huntSync := by decide
/-- V-S4: bit 7 differs. -/
theorem test_dec_huntSkip : decodeToken 0b0000_0_11010100 = .ok (.huntSkip 0xD4) := by decide
/-- V-S7: 0x54 in INFO is an info byte. -/
theorem test_dec_info : decodeToken 0b0001_0_01010100 = .ok (.info 0x54) := by decide
theorem test_dec_spdL : decodeToken 0b0010_0_00110100 = .ok (.spdL 0x34) := by decide
theorem test_dec_spdH : decodeToken 0b0011_0_00010010 = .ok (.spdH 0x12) := by decide
theorem test_dec_staL : decodeToken 0b0100_0_00001010 = .ok (.staL 0x0A) := by decide
theorem test_dec_staH : decodeToken 0b0101_0_00000000 = .ok (.staH 0x00) := by decide
theorem test_dec_dstL : decodeToken 0b0110_0_11110011 = .ok (.dstL 0xF3) := by decide
theorem test_dec_dstH : decodeToken 0b0111_0_00001010 = .ok (.dstH 0x0A) := by decide
theorem test_dec_int : decodeToken 0b1000_0_11001000 = .ok (.int 0xC8) := by decide
theorem test_dec_endL : decodeToken 0b1001_0_01001100 = .ok (.endL 0x4C) := by decide
theorem test_dec_endH : decodeToken 0b1010_0_00000100 = .ok (.endH 0x04) := by decide
theorem test_dec_tsL : decodeToken 0b1011_0_11101000 = .ok (.tsL 0xE8) := by decide
theorem test_dec_tsH : decodeToken 0b1100_0_00000011 = .ok (.tsH 0x03) := by decide
theorem test_dec_csum : decodeToken 0b1101_0_01011010 = .ok (.csum 0x5A) := by decide
theorem test_dec_fail : decodeToken 0b0111_1_00000000 = .ok (.fail .dstH 0x00) := by decide
theorem test_dec_idle : decodeToken 0b1110_0_01010100 = .error .noTokenInPhase := by decide
theorem test_dec_fail_term : decodeToken 0b1111_1_00000000 = .error .noTokenInPhase := by decide
theorem test_dec_none : decodeEvent ⟨0b00, 0, 0⟩ = .error .noEvent := by decide
theorem test_dec_pull : decodeEvent ⟨0b01, 0, 0⟩ = .ok .pull := by decide
theorem test_dec_take : decodeEvent ⟨0b10, 0, 0⟩ = .ok .take := by decide
theorem test_dec_reset : decodeEvent ⟨0b11, 0b10, 7⟩ = .ok (.reset .points 7) := by decide

/-- The table's words, in the table's two widths. -/
theorem test_table_words :
    decodeTableWord 16 0x0054 = some .huntSync ∧ decodeTableWord 16 0x0000 = some (.huntSkip 0) ∧
    decodeTableWord 16 0x1A00 = some (.csum 0) ∧ decodeTableWord 16 0x0100 = some (.fail .hunt 0) ∧
    decodeTableWord 8 1 = some .pull ∧ decodeTableWord 8 2 = some .take ∧
    decodeTableWord 8 3 = some (.reset .single 0) ∧ decodeTableWord 8 0 = none ∧
    decodeTableWord 16 0x1C00 = none ∧ decodeTableWord 16 0x2000 = none := by decide

/-! ### The operations -/

/-- R110, V-S1. -/
theorem test_huntSync : after (exec .huntSync { at_ .frames .hunt with idx := 7 })
    (fun t => t.phase == .info && t.idx == 0 && t.out == none) = true := by decide
/-- R111, V-S2. -/
theorem test_huntSkip : after (exec (.huntSkip 0x53) { at_ .frames .hunt with idx := 7 })
    (fun t => t.phase == .hunt && t.idx == 7) = true := by decide
/-- R120, V-H4. -/
theorem test_info : after (exec (.info 0x2C) (at_ .frames .info))
    (fun t => t.msgType == 1 && t.len == 12 && t.phase == .spdL) = true := by decide
/-- V-H6. -/
theorem test_info_ff : after (exec (.info 0xFF) (at_ .frames .info))
    (fun t => t.msgType == 7 && t.len == 31) = true := by decide
/-- R121: the high byte still holds its previous value. -/
theorem test_spdL : after (exec (.spdL 0x34) { at_ .frames .spdL with speed := 0xABCD })
    (fun t => t.speed == 0xAB34 && t.phase == .spdH) = true := by decide
/-- R122, V-H7. -/
theorem test_spdH : after (exec (.spdH 0x12) { at_ .frames .spdH with speed := 0xAB34 })
    (fun t => t.speed == 0x1234 && t.phase == .staL) = true := by decide
/-- R123. -/
theorem test_staL : after (exec (.staL 0x0A) { at_ .frames .staL with startRaw := 0xFFFF })
    (fun t => t.startRaw == 0xFF0A && t.phase == .staH) = true := by decide
/-- R124, V-H9. -/
theorem test_staH : after (exec (.staH 0x00) { at_ .frames .staH with startRaw := 0x000A, len := 12 })
    (fun t => t.startRaw == 10 && t.phase == .dstL) = true := by decide
/-- V-H10. -/
theorem test_staH_empty : after (exec (.staH 0x00) { at_ .frames .staH with len := 0 })
    (fun t => t.phase == .endL) = true := by decide
/-- R140. -/
theorem test_dstL : after (exec (.dstL 0xF3) { at_ .frames .dstL with len := 3, idx := 1 })
    (fun t => t.ptDist[1] == 0x00F3 && t.ptDist[0] == 0 && t.phase == .dstH) = true := by decide
/-- R141, V-P1. -/
theorem test_dstH : after (exec (.dstH 0x0A) { at_ .frames .dstH with len := 1, ptDist := Vector.replicate 31 0xFFF3 })
    (fun t => t.ptDist[0] == 2803 && t.ptDist[1] == 0xFFF3 && t.phase == .int) = true := by decide
/-- V-P4: IDX stays 30. -/
theorem test_int_last : after (exec (.int 0x1E) { at_ .frames .int with len := 31, idx := 30 })
    (fun t => t.ptInt[30] == 30 && t.idx == 30 && t.phase == .endL) = true := by decide
/-- V-P5: 0x54 is a data byte here. -/
theorem test_int_loop : after (exec (.int 0x54) { at_ .frames .int with len := 2 })
    (fun t => t.ptInt[0] == 0x54 && t.idx == 1 && t.phase == .dstL) = true := by decide
/-- R150. -/
theorem test_endL : after (exec (.endL 0x4C) { at_ .frames .endL with endRaw := 0x1200 })
    (fun t => t.endRaw == 0x124C && t.phase == .endH) = true := by decide
/-- R151, V-T1. -/
theorem test_endH : after (exec (.endH 0x04) { at_ .frames .endH with endRaw := 0x124C })
    (fun t => t.endRaw == 1100 && t.phase == .tsL) = true := by decide
/-- R152. -/
theorem test_tsL : after (exec (.tsL 0xE8) (at_ .frames .tsL))
    (fun t => t.timestamp == 0xE8 && t.phase == .tsH) = true := by decide
/-- R153, V-T3. -/
theorem test_tsH : after (exec (.tsH 0x03) { at_ .frames .tsH with timestamp := 0xE8 })
    (fun t => t.timestamp == 1000 && t.phase == .csum) = true := by decide
/-- V-F3: the last angle is 0x1.47ae147ae147cp-2, the end angle 0x1.47ae147ae147bp-2. -/
theorem test_csum_frame : after (exec (.csum 0) (frameAt .single 2 3 32 [5, 7]))
    (fun t => t.phase == .idle && match t.out with
      | some (.frame f) => f.points.map (fun p => (p.distance, p.angle)) ==
          [(5, ⟨0x3F9EB851EB851EB8⟩), (7, ⟨0x3FD47AE147AE147C⟩)] && f.endAngle == ⟨0x3FD47AE147AE147B⟩
      | _ => false) = true := by decide +kernel
/-- V-R3, third frame: the binary64 sum 0x1.67fffffffffffp+8 does not reach 360.0. -/
theorem test_csum_rotation : after (exec (.csum 0) { frameAt .rotations 1 7922 1 [3] with
      covered := ⟨0x4053CD70A3D70A3D⟩ })
    (fun t => t.covered == ⟨0x40767FFFFFFFFFFF⟩ && t.phase == .hunt && t.out == none) = true := by decide +kernel
/-- V-E1: Err in SINGLE mode, back to IDLE. -/
theorem test_fail_single : after (exec (.fail .spdH 0) (at_ .single .spdH))
    (fun t => t.out == some .err && t.phase == .idle && !t.req) = true := by decide
/-- V-R8: End, the pending points dropped. -/
theorem test_fail_rotations : after (exec (.fail .hunt 0)
      { at_ .rotations .hunt with pending := [⟨1, 0, ⟨0⟩⟩], covered := ⟨0x4034000000000000⟩ })
    (fun t => t.out == some .seqEnd && t.phase == .term && t.pending == [] && t.covered == ⟨0⟩) = true := by decide
/-- V-Q3: a point from PBUF. -/
theorem test_pull_pbuf : after (exec .pull { State.reset with
      mode := .points, pbuf := [⟨1, 1, ⟨0⟩⟩, ⟨2, 2, ⟨0⟩⟩], pbNext := 1 })
    (fun t => t.out == some (.point ⟨2, 2, ⟨0⟩⟩) && t.pbNext == 2 && !t.req) = true := by decide
/-- V-Q7: a second PULL is refused. -/
theorem test_pull_refused : after (exec .pull (at_ .frames .hunt)) (fun t => t.refused && t.req) = true := by decide
/-- V-Q9. -/
theorem test_take : after (exec .take { State.reset with mode := .frames, phase := .term, out := some .seqEnd })
    (fun t => t.out == none && t.phase == .term && t.taken == [.seqEnd]) = true := by decide
/-- V-Q8. -/
theorem test_take_refused : after (exec .take State.reset) (fun t => t.refused) = true := by decide
/-- V-X1: RESET in mid-frame. -/
theorem test_reset : after (exec (.reset .frames 1)
      { at_ .frames .int with idx := 4, fault := some .pendingOverflow, chan := [byteToken 4] })
    (fun t => t.phase == .idle && !t.req && t.idx == 0 && t.fault == none && t.chan == [byteToken 4]) = true := by decide
/-- V-E4. -/
theorem test_reset_refused : after (exec (.reset .rotations 0) State.reset)
    (fun t => t.refused && t.mode == .single) = true := by decide

/-! ### Binary64: values of 44_frame_complete.md R170, 46_rotation.md R210 and 95_test_vectors.md -/

/-- Raw 10 is 0.1 (0x1.999999999999ap-4), raw 1 is 0x1.47ae147ae147bp-7, raw 65535 is 0x1.47acccccccccdp+9. -/
theorem test_degrees : degrees 10 = ⟨0x3FB999999999999A⟩ ∧ degrees 1 = ⟨0x3F847AE147AE147B⟩ ∧
    degrees 65535 = ⟨0x40847ACCCCCCCCCD⟩ := by decide +kernel
/-- V-F4: 1/3, 2/3 and the tie that rounds to even 1.0. -/
theorem test_thirds : let inc := increment 4 (degrees 0) (degrees 100)
    pointAngle (degrees 0) inc 1 = ⟨0x3FD5555555555555⟩ ∧ pointAngle (degrees 0) inc 2 = ⟨0x3FE5555555555555⟩ ∧
    pointAngle (degrees 0) inc 3 = ⟨0x3FF0000000000000⟩ := by decide +kernel
/-- V-W2: 20.0 across 0 degrees; V-W4: -30.0; V-W6: 0x1.3f851eb851eb8p+4. -/
theorem test_sweep : sweep (degrees 35000) (degrees 1000) = ⟨0x4034000000000000⟩ ∧
    sweep (degrees 40000) (degrees 1000) = ⟨0xC03E000000000000⟩ ∧
    sweep (degrees 1) (degrees 1998) = ⟨0x4033F851EB851EB8⟩ := by decide +kernel
/-- S9: the threshold for 1 and 2 rotations is 360.0 and 720.0. -/
theorem test_threshold : threshold 1 = ⟨0x4076800000000000⟩ ∧ threshold 2 = ⟨0x4086800000000000⟩ := by decide +kernel

end Sys2Proof.Tests
end

