-- ==== Sys2Proof/Tests/Witnesses0.lean ====
section
/-! SUPPORT. For every statement with hypotheses, a concrete state and operands that meet them all together, clause by
clause, at the boundary values where clauses meet. -/

namespace Sys2Proof.Tests

open Sys2Proof.Machine

/-- A point. -/
def pt (d : U16) : Machine.Point := { distance := d, intensity := 0, angle := ⟨0⟩ }

/-- FRAMES mode, the engine about to consume a frame's checksum byte. -/
def sCsum : State := { at_ .frames .csum with chan := [byteToken 0x5A] }

/-- SINGLE mode, a Fail token offered in mid-frame. -/
def sFail : State := { at_ .single .tsH with chan := [{ fail := true, byte := 9 }] }

/-- FRAMES mode, a Fail token offered in HUNT. -/
def sFailSeq : State := { at_ .frames .hunt with chan := [failToken] }

/-- FRAMES mode, ended, End in OUT, TAKE coming, a token left in the channel. -/
def sEnd : State :=
  { State.reset with
    mode := .frames, phase := .term, out := some .seqEnd, host := [plainEvent 0b10], chan := [byteToken 1] }

/-- FRAMES mode, ended, PULL coming. -/
def sTerm : State := { State.reset with mode := .frames, phase := .term, host := [plainEvent 0b01] }

/-- POINTS mode, one of two points left in PBUF, PULL coming. -/
def sPbuf : State :=
  { State.reset with mode := .points, pbuf := [pt 1, pt 2], pbNext := 1, host := [plainEvent 0b01] }

/-- ROTATIONS mode, PENDING full at its capacity of 2, a frame of one point about to complete. -/
def sOver : State :=
  { at_ .rotations .csum with
    pendingCap := some 2, pending := [pt 1, pt 2], len := 1, chan := [byteToken 0] }

theorem sCsum_inv : sCsum.Inv := by constructor <;> simp [sCsum, at_, Phase.reading, Config.lenMax]
theorem sFail_inv : sFail.Inv := by constructor <;> simp [sFail, at_, Phase.reading, Config.lenMax]
theorem sFailSeq_inv : sFailSeq.Inv := by constructor <;> simp [sFailSeq, at_, Phase.reading, Config.lenMax]
theorem sEnd_inv : sEnd.Inv := by constructor <;> simp [sEnd, Phase.reading, Config.lenMax, itemFits]
theorem sTerm_inv : sTerm.Inv := by constructor <;> simp [sTerm, Phase.reading, Config.lenMax]
theorem sPbuf_inv : sPbuf.Inv := by constructor <;> simp [sPbuf, Phase.reading, Config.lenMax]
theorem sOver_inv : sOver.Inv := by constructor <;> simp [sOver, at_, Phase.reading, Config.lenMax]

/-! ### Encoding -/

theorem witness_DecodeEncodeRoundTrip : Instr.wf (.huntSkip 0x55) = true ∧ Instr.wf (.fail .csum 0xFF) = true := by decide
theorem witness_DecodedTokenEncodesBack : decodeToken 0x1BFF = .ok (.fail .csum 0xFF) := by decide
theorem witness_ExactlyOneRowPerReadingWord : ((0x1BFF : BitVec 13).extractLsb' 9 4).toNat ≤ 0xD := by decide
theorem witness_NoTokenDecodedInIdleOrTerm :
    0xE ≤ ((0x1C00 : BitVec 13).extractLsb' 9 4).toNat ∧ State.reset.phase = .idle ∧ sTerm.phase = .term := by decide
theorem witness_EventCodes :
    (plainEvent 0b00).ev = 0b00 ∧ (plainEvent 0b01).ev = 0b01 ∧ (plainEvent 0b10).ev = 0b10 ∧
    (plainEvent 0b11).ev = 0b11 := by decide

/-! ### The step -/

theorem witness_StepRunsDecodedToken_empty :
    sCsum.req = true ∧ sCsum.phase.reading = true ∧ sCsum.fault = none ∧ sCsum.refused = false ∧
    sCsum.chan = byteToken 0x5A :: [] ∧ sCsum.host = [] ∧
    decodeToken (decodeWord sCsum.phase (byteToken 0x5A)) = .ok (.csum 0x5A) := by decide
theorem witness_StepRunsDecodedToken_eventless : ∃ s : State,
    s.req = true ∧ s.phase.reading = true ∧ s.fault = none ∧ s.refused = false ∧ s.chan = byteToken 0x5A :: [] ∧
    (∃ h, s.host = h :: [] ∧ h.ev = 0b00) ∧
    decodeToken (decodeWord s.phase (byteToken 0x5A)) = .ok (.csum 0x5A) :=
  ⟨{ sCsum with host := [plainEvent 0b00] }, rfl, rfl, rfl, rfl, rfl, ⟨_, rfl, rfl⟩, by decide⟩
theorem witness_StepRunsHostEvent : sEnd.host = plainEvent 0b10 :: [] ∧ decodeEvent (plainEvent 0b10) = .ok .take := by
  decide
theorem witness_StepWithoutEnabledAgent_wait : ∃ s : State,
    (s.req = true ∧ s.phase.reading = true ∧ s.fault = none ∧ s.refused = false → s.chan = []) ∧
    ∃ h hs, s.host = h :: hs ∧ h.ev = 0b00 :=
  ⟨{ at_ .frames .hunt with host := [plainEvent 0b00] }, fun _ => rfl, _, _, rfl, rfl⟩
theorem witness_StepWithoutEnabledAgent_halted : ∃ s : State,
    (s.req = true ∧ s.phase.reading = true ∧ s.fault = none ∧ s.refused = false → s.chan = []) ∧ s.host = [] ∧
    (s.fault ≠ none ∨ s.refused = true) := ⟨{ at_ .frames .hunt with refused := true }, fun _ => rfl, rfl, .inr rfl⟩
theorem witness_StepWithoutEnabledAgent_stalled : ∃ s : State,
    (s.req = true ∧ s.phase.reading = true ∧ s.fault = none ∧ s.refused = false → s.chan = []) ∧ s.host = [] ∧
    s.fault = none ∧ s.refused = false ∧ s.phase.reading = true := ⟨at_ .frames .hunt, fun _ => rfl, rfl, rfl, rfl, rfl⟩
theorem witness_StepWithoutEnabledAgent_ended : ∃ s : State,
    (s.req = true ∧ s.phase.reading = true ∧ s.fault = none ∧ s.refused = false → s.chan = []) ∧ s.host = [] ∧
    s.fault = none ∧ s.refused = false ∧ s.phase.reading = false := ⟨State.reset, fun _ => rfl, rfl, rfl, rfl, rfl⟩
theorem witness_StepStopsOnlyAtRunEnd : ∃ s r, step s = .fault r := ⟨State.reset, .ended, rfl⟩
theorem witness_FetchWordRunsToken : decodeToken 0x1A5A = .ok (.csum 0x5A) := by decide

/-! ### The operations -/

theorem witness_HuntSkipDiscardsByte : ∃ dw : BitVec 13, dw &&& 0x1F00 = 0x0000 ∧ dw ≠ 0x0054 := ⟨0x0055, by decide⟩
theorem witness_InfoUnpacksByte : ∃ dw : BitVec 13, dw &&& 0x1F00 = 0x0200 := ⟨0x02FF, by decide⟩
theorem witness_LowBytesTaken : ∃ a b c d : BitVec 13, a &&& 0x1F00 = 0x0400 ∧ b &&& 0x1F00 = 0x0800 ∧
    c &&& 0x1F00 = 0x1200 ∧ d &&& 0x1F00 = 0x1600 := ⟨0x0434, 0x080A, 0x124C, 0x16E8, by decide⟩
theorem witness_HighBytesTaken : ∃ a b c : BitVec 13, a &&& 0x1F00 = 0x0600 ∧ b &&& 0x1F00 = 0x1400 ∧
    c &&& 0x1F00 = 0x1800 := ⟨0x0612, 0x1404, 0x1803, by decide⟩
theorem witness_StartHighByteBranchesOnLen : ∃ (dw : BitVec 13) (s t : State), dw &&& 0x1F00 = 0x0A00 ∧ s.len = 0 ∧
    t.len ≠ 0 := ⟨0x0A00, at_ .frames .staH, { at_ .frames .staH with len := 1 }, by decide⟩
theorem witness_DistanceBytesTaken : ∃ (a b : BitVec 13) (s : State) (k : Fin 31), a &&& 0x1F00 = 0x0C00 ∧
    b &&& 0x1F00 = 0x0E00 ∧ k ≠ s.idx := ⟨0x0CF3, 0x0E0A, at_ .frames .dstL, 30, by decide⟩
/-- The two clauses at their boundary: IDX + 1 = LEN - 1 loops, IDX + 1 = LEN leaves. -/
theorem witness_IntensityTakenAndLooped : ∃ (dw : BitVec 13) (s t : State) (k : Fin 31), dw &&& 0x1F00 = 0x1000 ∧
    k ≠ s.idx ∧ s.idx.val + 1 < s.len.toNat ∧ t.len.toNat ≤ t.idx.val + 1 :=
  ⟨0x1054, { at_ .frames .int with len := 31, idx := 29 }, { at_ .frames .int with len := 31, idx := 30 }, 0, by decide⟩
theorem witness_ChecksumDeliversFrame : ∃ s t u : State, s.mode = .single ∧ s.len.toNat = 1 ∧ t.mode = .frames ∧
    2 ≤ t.len.toNat ∧ u.mode = .frames ∧ u.len = 0 ∧ (30 : Fin 31).val < t.len.toNat :=
  ⟨frameAt .single 1 10 20 [2803], frameAt .frames 31 0 3000 [], frameAt .frames 0 0 10000 [], by decide⟩
theorem witness_ChecksumDeliversFirstPoint : ∃ s t : State, s.mode = .points ∧ s.len = 0 ∧ t.mode = .points ∧ t.len ≠ 0 :=
  ⟨frameAt .points 0 0 0 [], frameAt .points 1 0 0 [5], by decide⟩
theorem witness_ChecksumAggregatesRotation_overflow : ∃ s : State, s.mode = .rotations ∧
    ∃ cap, s.pendingCap = some cap ∧ cap < s.pending.length + s.len.toNat := ⟨sOver, rfl, 2, rfl, by decide⟩
/-- A frame from 0.0 to 360.0 reaches the threshold exactly, with PENDING at its capacity afterwards. -/
theorem witness_ChecksumAggregatesRotation_batch : ∃ s : State, s.mode = .rotations ∧
    (∀ cap, s.pendingCap = some cap → s.pending.length + s.len.toNat ≤ cap) ∧
    F64.ge (F64.add s.covered (F64.sub (F64.div (F64.ofNat s.endRaw.toNat) (F64.ofNat 100))
      (F64.div (F64.ofNat s.startRaw.toNat) (F64.ofNat 100))))
      (F64.mul (F64.ofNat s.rotTarget.toNat) (F64.ofNat 360)) = true :=
  ⟨{ frameAt .rotations 1 0 36000 [] with pendingCap := some 1 }, rfl, fun _ h => by cases h; decide, by decide +kernel⟩
theorem witness_ChecksumAggregatesRotation_below : ∃ s : State, s.mode = .rotations ∧
    (∀ cap, s.pendingCap = some cap → s.pending.length + s.len.toNat ≤ cap) ∧
    F64.ge (F64.add s.covered (F64.sub (F64.div (F64.ofNat s.endRaw.toNat) (F64.ofNat 100))
      (F64.div (F64.ofNat s.startRaw.toNat) (F64.ofNat 100))))
      (F64.mul (F64.ofNat s.rotTarget.toNat) (F64.ofNat 360)) = false :=
  ⟨frameAt .rotations 1 0 35999 [], rfl, by simp [frameAt, at_], by decide +kernel⟩
theorem witness_FailEndsDecode : ∃ (dw : BitVec 13) (s t : State), (dw.extractLsb' 9 4).toNat ≤ 0xD ∧
    dw &&& 0x0100 = 0x0100 ∧ s.mode = .single ∧ t.mode ≠ .single := ⟨0x1BFF, sFail, sFailSeq, by decide⟩
theorem witness_PullAnswersOrStartsDecode_term :
    sTerm.req = false ∧ sTerm.out = none ∧ sTerm.fault = none ∧ sTerm.refused = false ∧ sTerm.phase = .term := by decide
theorem witness_PullAnswersOrStartsDecode_point :
    sPbuf.req = false ∧ sPbuf.out = none ∧ sPbuf.fault = none ∧ sPbuf.refused = false ∧ sPbuf.phase ≠ .term ∧
    sPbuf.mode = .points ∧ sPbuf.pbuf[sPbuf.pbNext]? = some (pt 2) := by decide
/-- PBUF exhausted: PB_NEXT = length(PBUF). -/
theorem witness_PullAnswersOrStartsDecode_decode : ∃ s : State,
    s.req = false ∧ s.out = none ∧ s.fault = none ∧ s.refused = false ∧ s.phase ≠ .term ∧
    (s.mode = .points → s.pbuf.length ≤ s.pbNext) := ⟨{ sPbuf with pbNext := 2 }, by decide⟩
theorem witness_TakeHandsItemOver : sEnd.out = some .seqEnd ∧ sEnd.fault = none ∧ sEnd.refused = false := by decide
theorem witness_TakeHandsItemOver_refused : ¬(sTerm.out ≠ none ∧ sTerm.fault = none ∧ sTerm.refused = false) := by decide
theorem witness_PullAnswersOrStartsDecode_refused :
    ¬(sEnd.req = false ∧ sEnd.out = none ∧ sEnd.fault = none ∧ sEnd.refused = false) := by decide
theorem witness_RefusedEventsSetRefused : sCsum.req = true ∧ sEnd.out ≠ none ∧ sCsum.out = none ∧
    ({ sOver with fault := some .pendingOverflow }).fault ≠ none ∧ ({ sEnd with refused := true }).refused = true := by
  decide
theorem witness_ResetLoadsConfiguration : (Mode.rotations = .rotations ∧ (0 : BitVec 32) = 0) ∧
    ¬(Mode.rotations = .rotations ∧ (1 : BitVec 32) = 0) ∧ ¬(Mode.single = .rotations ∧ (0 : BitVec 32) = 0) := by decide
/-- Each kind of item in OUT, a TAKE that is accepted, and a ready engine in a state with the invariant. -/
theorem witness_OutputSignals : ∃ s : State, exec .take s ≠ .next { s with refused := true } ∧ s.out = some .seqEnd := by
  refine ⟨sEnd, fun h => ?_, rfl⟩
  have := congrArg (fun o => after o fun t => t.out == none) h
  revert this; decide
theorem witness_OutputSignals_items : ∃ a b c d : State, a.out = some (.frame (completedFrame State.reset)) ∧
    b.out = some (.point (pt 1)) ∧ c.out = some (.batch []) ∧ d.out = some .err :=
  ⟨State.reset.deliver (.frame (completedFrame State.reset)), State.reset.deliver (.point (pt 1)),
    State.reset.deliver (.batch []), State.reset.deliver .err, rfl, rfl, rfl, rfl⟩
theorem witness_OutputSignals_ready : sCsum.Inv ∧ sCsum.inReady = true := ⟨sCsum_inv, by decide⟩

/-! ### The whole machine -/

theorem witness_InvariantKeptByStep : ∃ s s' : State, s.Inv ∧ step s = .next s' := ⟨sCsum, _, sCsum_inv, rfl⟩
theorem witness_ResetEstablishesInvariant : (Mode.rotations = .rotations → (1 : BitVec 32) ≠ 0) := by decide
theorem witness_ConfigurationChangesOnlyByReset : ∃ s s' : State, step s = .next s' := ⟨sFail, _, rfl⟩
theorem witness_FaultAndRefusedAreSticky : ∃ s s' : State, (s.fault ≠ none ∨ s.refused = true) ∧ step s = .next s' :=
  ⟨{ sTerm with refused := true }, _, .inr rfl, rfl⟩
theorem witness_TermIsAbsorbing : ∃ s s' : State, s.phase = .term ∧ step s = .next s' ∧
    (∃ h hs, s.host = h :: hs ∧ h.ev = 0b01) ∧ s.req = false ∧ s.out = none ∧ s.good :=
  ⟨sTerm, _, rfl, rfl, ⟨_, _, rfl, rfl⟩, rfl, rfl, rfl, rfl⟩
theorem witness_TokensConsumedOnceInOrder : ∃ (s s' : State) (t : Token) (rest : List Token), step s = .next s' ∧
    s.req = true ∧ s.phase.reading = true ∧ s.fault = none ∧ s.refused = false ∧ s.chan = t :: rest ∧
    (∀ h hs, s.host = h :: hs → h.ev = 0b00) :=
  ⟨sCsum, _, _, _, rfl, rfl, rfl, rfl, rfl, rfl, fun _ _ h => by cases h⟩
theorem witness_NoReadWithoutOutstandingPull : ∃ s s' : State, s.Inv ∧
    (s.out ≠ none ∨ s.phase = .idle ∨ s.phase = .term) ∧ step s = .next s' :=
  ⟨sEnd, _, sEnd_inv, .inl (by decide), rfl⟩
theorem witness_NoReadWithoutOutstandingPull_idle : ∃ s s' : State, s.Inv ∧
    (s.out ≠ none ∨ s.phase = .idle ∨ s.phase = .term) ∧ step s = .next s' :=
  ⟨sPbuf, _, sPbuf_inv, .inr (.inl rfl), rfl⟩
theorem witness_ItemNeverOverwritten : ∃ (s s' : State) (it : Item), s.Inv ∧ s.out = some it ∧ step s = .next s' :=
  ⟨sEnd, _, _, sEnd_inv, rfl, rfl⟩
theorem witness_TakenGrowsOnlyByTake : ∃ s s' : State, step s = .next s' ∧ s'.taken ≠ s.taken :=
  ⟨sEnd, _, rfl, by decide⟩
theorem witness_DeliveredOnlyAfterChecksum : ∃ (s s' : State) (it : Item), s.Inv ∧ s.out = none ∧ step s = .next s' ∧
    s'.out = some it := ⟨sCsum, _, _, sCsum_inv, rfl, rfl, rfl⟩
theorem witness_DeliveredOnlyAfterChecksum_point : ∃ (s s' : State) (it : Item), s.Inv ∧ s.out = none ∧
    step s = .next s' ∧ s'.out = some it := ⟨sPbuf, _, _, sPbuf_inv, rfl, rfl, rfl⟩
theorem witness_ErrOnlyFromFailToken : ∃ s s' : State, s.out = none ∧ step s = .next s' ∧ s'.out = some .err :=
  ⟨sFail, _, rfl, rfl, rfl⟩
theorem witness_EndOnlyFromFailureOrTerm_fail : ∃ s s' : State, s.Inv ∧ s.out = none ∧ step s = .next s' ∧
    s'.out = some .seqEnd := ⟨sFailSeq, _, sFailSeq_inv, rfl, rfl, rfl⟩
theorem witness_EndOnlyFromFailureOrTerm_term : ∃ s s' : State, s.Inv ∧ s.out = none ∧ step s = .next s' ∧
    s'.out = some .seqEnd := ⟨sTerm, _, sTerm_inv, rfl, rfl, rfl⟩
theorem witness_OverflowOnlyWhenBounded : ∃ s s' : State, s.Inv ∧ s.fault = none ∧ step s = .next s' ∧
    s'.fault ≠ none := ⟨sOver, _, sOver_inv, rfl, rfl, by decide⟩
/-- Two states in HUNT that differ in every unwritten register. -/
theorem witness_UnwrittenRegistersUnobservable : ∃ s t : State, s.Inv ∧ s ≠ t ∧ s.SameButUnwritten t := by
  refine ⟨sFailSeq,
    { sFailSeq with
      msgType := 3, len := 9, speed := 1, startRaw := 2, endRaw := 3, timestamp := 4, checksum := 5, idx := 6
      ptDist := Vector.replicate 31 7, ptInt := Vector.replicate 31 8 },
    sFailSeq_inv, by decide, rfl, ?_⟩
  constructor <;> simp [sFailSeq, at_]

/-! ### Whole frames -/

/-- A frame of two points. -/
def wTwo : WireFrame :=
  { msgType := 1, speed := 3600, startRaw := 0, points := [(100, 0), (101, 1)], endRaw := 1100, timestamp := 1000
    checksum := 0x5A }

/-- A frame of 31 points. -/
def wMax : WireFrame := { wTwo with points := List.replicate 31 (0x5454, 0x54) }

theorem witness_FrameDecodedFromHunt : ∃ (junk : List Byte) (rest : List Token) (s : State),
    wMax.points.length ≤ 31 ∧ (∀ b ∈ junk, b ≠ 0x54) ∧ s.phase = .hunt ∧ s.req = true ∧ s.fault = none ∧
    s.refused = false ∧ s.host = [] ∧ s.chan = junk.map byteToken ++ wMax.tokens ++ rest :=
  ⟨[0x00, 0xFF, 0x53], [failToken], { at_ .rotations .hunt with
    chan := ([0x00, 0xFF, 0x53] : List Byte).map byteToken ++ wMax.tokens ++ [failToken] },
    by decide, by decide, rfl, rfl, rfl, rfl, rfl, rfl⟩
/-- The Fail comes just before the checksum byte, and at once. -/
theorem witness_TruncatedFrameDeliversNothing : ∃ s t : State, wTwo.points.length ≤ 31 ∧ 16 < wTwo.tokens.length ∧
    0 < wTwo.tokens.length ∧ s.mode = .single ∧ t.mode ≠ .single ∧
    (s.phase = .hunt ∧ s.req = true ∧ s.fault = none ∧ s.refused = false ∧ s.host = [] ∧
      s.chan = wTwo.tokens.take 16 ++ { fail := true, byte := 1 } :: []) ∧
    (t.phase = .hunt ∧ t.req = true ∧ t.fault = none ∧ t.refused = false ∧ t.host = [] ∧
      t.chan = wTwo.tokens.take 0 ++ { fail := true, byte := 1 } :: []) :=
  ⟨{ at_ .single .hunt with chan := wTwo.tokens.take 16 ++ { fail := true, byte := 1 } :: [] },
    { at_ .points .hunt with chan := wTwo.tokens.take 0 ++ { fail := true, byte := 1 } :: [] },
    by decide, by decide, by decide, rfl, by decide, ⟨rfl, rfl, rfl, rfl, rfl, rfl⟩, ⟨rfl, rfl, rfl, rfl, rfl, rfl⟩⟩
theorem witness_PointsPulledInWireOrder : ∃ s : State, 1 ≤ wTwo.points.length ∧ wTwo.points.length ≤ 31 ∧
    s.mode = .points ∧ s.phase = .idle ∧ s.req = false ∧ s.out = none ∧ s.fault = none ∧ s.refused = false ∧
    s.pbuf.length ≤ s.pbNext ∧ s.chan = wTwo.tokens ++ [failToken] ∧
    s.host = plainEvent 0b01 :: List.replicate (11 + 3 * wTwo.points.length) (plainEvent 0b00) ++ [plainEvent 0b10] ++
      (List.replicate (wTwo.points.length - 1) [plainEvent 0b01, plainEvent 0b10]).flatten :=
  ⟨{ State.reset with
      mode := .points, chan := wTwo.tokens ++ [failToken]
      host := plainEvent 0b01 :: List.replicate (11 + 3 * wTwo.points.length) (plainEvent 0b00) ++ [plainEvent 0b10] ++
        (List.replicate (wTwo.points.length - 1) [plainEvent 0b01, plainEvent 0b10]).flatten },
    by decide, by decide, rfl, rfl, rfl, rfl, rfl, rfl, by decide, rfl, rfl⟩

/-! ### Binary64 -/

/-- 1.0. -/
def one : F64 := ⟨0x3FF0000000000000⟩

theorem one_val : F64.val one = 1 := by
  have h : F64.val one = (1 : ℚ) * (((2 ^ 52 + 0 : ℕ) : ℚ) * (2 : ℚ) ^ ((1023 : ℤ) - 1075)) := rfl
  rw [h]; norm_num [zpow_neg]
/-- Small numbers are far below the overflow bound. -/
theorem small_inRange (x : ℚ) (h : |x| ≤ 2) : F64.InRange x := by
  have key : ∀ y : ℚ, 1 ≤ y → 2 < y * 2 ^ 54 - y := fun y hy => by norm_num; linarith
  have hp : (2 : ℚ) ^ 1024 = 2 ^ 970 * 2 ^ 54 := by rw [← pow_add]
  unfold F64.InRange
  rw [hp]
  exact lt_of_le_of_lt h (key _ (one_le_pow₀ (by norm_num)))

theorem witness_rounded_operations : F64.isFinite one = true ∧ F64.InRange (F64.val one + F64.val one) ∧
    F64.InRange (F64.val one - F64.val one) ∧ F64.InRange (F64.val one * F64.val one) ∧ F64.val one ≠ 0 ∧
    F64.InRange (F64.val one / F64.val one) := by
  rw [one_val]
  refine ⟨by decide, ?_, ?_, ?_, by norm_num, ?_⟩ <;> apply small_inRange <;> norm_num
/-- The largest finite binary64; twice its value is not in range. -/
def largest : F64 := ⟨0x7FEFFFFFFFFFFFFF⟩

theorem largest_overflows : ¬F64.InRange (F64.val largest + F64.val largest) := by
  have hv : F64.val largest = (2 ^ 53 - 1) * (2 : ℚ) ^ 971 := by
    have h : F64.val largest = (1 : ℚ) * (((2 ^ 52 + (2 ^ 52 - 1) : ℕ) : ℚ) * (2 : ℚ) ^ (((971 + 1075 : ℕ) : ℤ) - 1075)) := rfl
    rw [h, show (((971 + 1075 : ℕ) : ℤ) - 1075) = (971 : ℕ) by norm_num, zpow_natCast, one_mul]; norm_num
  unfold F64.InRange
  rw [hv, show (2 : ℚ) ^ 1024 = 2 ^ 53 * 2 ^ 971 by rw [← pow_add]]
  have hp : (0 : ℚ) < 2 ^ 971 := by positivity
  have hq : (0 : ℚ) < 2 ^ 970 := by positivity
  rw [not_lt, abs_of_pos (by norm_num)]
  generalize (2 : ℚ) ^ 971 = P at *
  generalize (2 : ℚ) ^ 970 = Q at *
  norm_num
  linarith

theorem witness_ZeroResultSigns : ∃ x y : F64, F64.isFinite x = true ∧ F64.isFinite y = true ∧
    F64.val x + F64.val y = 0 ∧ F64.val x - F64.val x = 0 ∧ F64.val x ≠ 0 :=
  ⟨one, F64.negate one, by decide, by decide, by rw [F64.val_negate, add_neg_cancel], sub_self _, by rw [one_val]; norm_num⟩
/-- 2.0 and 0.5: the largest value times the one, or over the other, is its double. -/
def two : F64 := ⟨0x4000000000000000⟩
def half : F64 := ⟨0x3FE0000000000000⟩

theorem two_val : F64.val two = 2 := by
  have h : F64.val two = (1 : ℚ) * (((2 ^ 52 + 0 : ℕ) : ℚ) * (2 : ℚ) ^ ((1024 : ℤ) - 1075)) := rfl
  rw [h]; norm_num [zpow_neg]
theorem half_val : F64.val half = 1 / 2 := by
  have h : F64.val half = (1 : ℚ) * (((2 ^ 52 + 0 : ℕ) : ℚ) * (2 : ℚ) ^ ((1022 : ℤ) - 1075)) := rfl
  rw [h]; norm_num [zpow_neg]

theorem witness_NonFiniteResults_overflow : F64.isFinite largest = true ∧ F64.isFinite (F64.negate largest) = true ∧
    F64.isFinite two = true ∧ F64.isFinite half = true ∧ F64.val half ≠ 0 ∧
    ¬F64.InRange (F64.val largest + F64.val largest) ∧ ¬F64.InRange (F64.val largest - F64.val (F64.negate largest)) ∧
    ¬F64.InRange (F64.val largest * F64.val two) ∧ ¬F64.InRange (F64.val largest / F64.val half) := by
  refine ⟨by decide, by decide, by decide, by decide, by rw [half_val]; norm_num, largest_overflows, ?_, ?_, ?_⟩
  · rw [F64.val_negate, sub_neg_eq_add]; exact largest_overflows
  · rw [two_val, mul_two]; exact largest_overflows
  · rw [half_val, div_div_eq_mul_div, div_one, mul_two]; exact largest_overflows
theorem witness_NonFiniteResults : ∃ n i z x : F64, F64.isNaN n = true ∧ F64.isInf i = true ∧ F64.neg? i ≠ F64.neg? z ∧
    F64.isInf (F64.negate i) = true ∧ F64.isFinite z = true ∧ F64.val z = 0 ∧ F64.isFinite x = true ∧ F64.val x ≠ 0 :=
  ⟨⟨0x7FF8000000000000⟩, ⟨0xFFF0000000000000⟩, ⟨0⟩, one, by decide, by decide, by decide, by decide, by decide,
    by rw [F64.val_eq_zero]; decide, by decide, by rw [one_val]; norm_num⟩
theorem witness_IntegerConversionExact : 2 ^ 53 - 1 < 2 ^ 53 := by decide
theorem witness_ComparisonIsNumeric : F64.isFinite one = true ∧ F64.isNaN ⟨0x7FF0000000000001⟩ = true := by decide
theorem witness_CompletionAnglesFinite : ∃ (len : BitVec 5) (i : Nat), i < len.toNat := ⟨31, 30, by decide⟩
theorem witness_FirstPointAtStartAngle : ∃ len : BitVec 5, len.toNat ≤ 1 := ⟨1, by decide⟩
theorem witness_SweepBranchesOnRawAngles : ∃ a b : U16, a.toNat ≤ a.toNat ∧ b.toNat < a.toNat := ⟨1, 0, by decide⟩
theorem witness_CoveredStaysFinite : ∃ s s' : State, F64.isFinite s.covered = true ∧ step s = .next s' :=
  ⟨sCsum, _, by decide, rfl⟩

end Sys2Proof.Tests
end

section
/-! PROOFS. The binary64 operations are IEEE 754's (00_scope.md R15). `roundMag` gives a nearest magnitude, ties to even;
`roundsTo_pack` carries this to signed values once, and each operation is rounded through it. -/

namespace Sys2Proof.F64

/-! ### Rounding a magnitude to nearest -/

/-- Below the overflow bound, rounding gives a finite magnitude. -/
theorem roundMag_lt_infMag {n d : ℕ} (hd : 0 < d) (h : n < (2 ^ 54 - 1) * 2 ^ 2044 * d) : roundMag n d < infMag := by
  obtain ⟨m, hlo, -, hround⟩ := roundMag_spec n d hd
  have hinf := unitsOf_infMag
  have hpred := unitsOf_infMag_pred
  generalize (2 : ℕ) ^ 2044 = P at *
  have hm : m < infMag := by
    refine unitsOf_strictMono.lt_iff_lt.1 (Nat.lt_of_mul_lt_mul_right (a := d) (hlo.trans_lt (h.trans_le ?_)))
    rw [hinf]
    exact Nat.mul_le_mul_right _ (Nat.mul_le_mul_right _ (by norm_num))
  rw [hround]
  refine (min_le_right _ _).trans_lt ?_
  rcases Nat.lt_or_ge (m + 1) infMag with hlt | hge
  · split <;> omega
  · have hlast : m = infMag - 1 := by omega
    have hmid : 2 * n < (unitsOf m + unitsOf (m + 1)) * d := by
      rw [show m + 1 = infMag by omega, hlast, hinf, hpred]
      calc 2 * n < 2 * ((2 ^ 54 - 1) * P * d) := by omega
        _ = ((2 ^ 54 - 2) * P + 2 ^ 54 * P) * d := by ring_nf
    rwa [if_pos (.inl hmid)]

/-- The end of a gap on `n`'s side of the middle is the nearest point outside the gap, and only a point in the middle has
another one as near. -/
theorem gap_end_nearest {lo hi u n e : ℕ} (hlo : lo ≤ n) (hhi : n < hi) (hu : u ≤ lo ∨ hi ≤ u)
    (he : e = lo ∧ 2 * n ≤ lo + hi ∨ e = hi ∧ lo + hi ≤ 2 * n) :
    |(e : ℤ) - n| ≤ |(u : ℤ) - n| ∧ (|(e : ℤ) - n| = |(u : ℤ) - n| → u = e ∨ 2 * n = lo + hi) := by
  simp only [Int.abs_eq_natAbs]
  omega

/-- Below the overflow bound no magnitude is nearer to `n / d` than the rounded one, and of two equally near ones the
rounded one is even. Distances are in units of 2^-1074, times `d`. -/
theorem roundMag_nearest {n d : ℕ} (hd : 0 < d) (h : n < (2 ^ 54 - 1) * 2 ^ 2044 * d) (m : ℕ) :
    |((unitsOf (roundMag n d) * d : ℕ) : ℤ) - n| ≤ |((unitsOf m * d : ℕ) : ℤ) - n| ∧
      (|((unitsOf (roundMag n d) * d : ℕ) : ℤ) - n| = |((unitsOf m * d : ℕ) : ℤ) - n| → m ≠ roundMag n d →
        roundMag n d % 2 = 0) := by
  have hfin := roundMag_lt_infMag hd h
  obtain ⟨k, hlo, hhi, hround⟩ := roundMag_spec n d hd
  rw [add_mul] at hround
  have hmono : StrictMono fun j => unitsOf j * d := fun _ _ hj =>
    Nat.mul_lt_mul_of_pos_right (unitsOf_strictMono hj) hd
  have hout : unitsOf m * d ≤ unitsOf k * d ∨ unitsOf (k + 1) * d ≤ unitsOf m * d :=
    (Nat.lt_or_ge k m).symm.imp (hmono.monotone ·) (hmono.monotone ·)
  have hend : (roundMag n d = k ∧ 2 * n ≤ unitsOf k * d + unitsOf (k + 1) * d) ∨
      (roundMag n d = k + 1 ∧ unitsOf k * d + unitsOf (k + 1) * d ≤ 2 * n) := by
    split at hround <;> omega
  have heven : 2 * n = unitsOf k * d + unitsOf (k + 1) * d → roundMag n d % 2 = 0 := by
    split at hround <;> omega
  obtain ⟨hle, htie⟩ := gap_end_nearest hlo hhi hout (e := unitsOf (roundMag n d) * d)
    (hend.imp (fun ⟨he, hn⟩ => ⟨by rw [he], hn⟩) (fun ⟨he, hn⟩ => ⟨by rw [he], hn⟩))
  exact ⟨hle, fun he hne => heven ((htie he).resolve_left fun hu => hne (hmono.injective hu))⟩

/-- A rational of magnitude `n / d` units that is in range is below the overflow bound. -/
theorem lt_of_inRange {q : ℚ} {n d : ℕ} (hd : 0 < d) (hq : |q| = (n : ℚ) / d / 2 ^ 1074) (h : InRange q) :
    n < (2 ^ 54 - 1) * 2 ^ 2044 * d := by
  unfold InRange at h
  rw [hq, div_lt_iff₀ (by positivity), div_lt_iff₀ (by positivity),
    show (2 : ℚ) ^ 1024 = 2 ^ 54 * 2 ^ 970 by rw [← pow_add], ← sub_one_mul,
    mul_assoc (2 ^ 54 - 1 : ℚ), ← pow_add] at h
  rw [← Nat.cast_lt (α := ℚ)]
  refine h.trans_eq ?_
  rw [Nat.cast_mul, Nat.cast_mul, Nat.cast_pow, Nat.cast_sub (by norm_num), Nat.cast_pow,
    Nat.cast_ofNat, Nat.cast_one]

/-! ### Signed values -/

/-- The factor a sign bit stands for. -/
def signOf (neg : Bool) : ℚ := if neg then -1 else 1

@[simp] theorem abs_signOf (neg : Bool) : |signOf neg| = 1 := by cases neg <;> simp [signOf]

theorem signOf_bne (a b : Bool) : signOf (a != b) = signOf a * signOf b := by cases a <;> cases b <;> simp [signOf]

theorem signOf_div (a b : Bool) : signOf a / signOf b = signOf (a != b) := by cases a <;> cases b <;> simp [signOf]

theorem abs_signOf_units (neg : Bool) (n d : ℕ) :
    |signOf neg * ((n : ℚ) / d / 2 ^ 1074)| = (n : ℚ) / d / 2 ^ 1074 := by
  rw [abs_mul, abs_signOf, one_mul, abs_of_nonneg (by positivity)]

/-- A value is its sign times its magnitude. -/
theorem val_eq_signOf (x : F64) : val x = signOf (neg? x) * ((units x : ℚ) / 2 ^ 1074) := by
  rw [val_eq, signedUnits, signOf]
  cases neg? x <;> simp [neg_div]

theorem isFinite_pack (neg : Bool) {m : ℕ} (hm : m < infMag) : isFinite (pack neg m) = true := by
  simpa [isFinite, mag_pack _ _ (hm.trans infMag_lt)] using hm

theorem val_pack (neg : Bool) {m : ℕ} (hm : m < 2 ^ 63) :
    val (pack neg m) = signOf neg * ((unitsOf m : ℚ) / 2 ^ 1074) := by
  rw [val_eq_signOf, neg?_pack _ _ hm, units, mag_pack _ _ hm]

/-- The lowest bit of the encoding is that of the magnitude fields. -/
theorem bits_mod_two (x : F64) : x.bits.toNat % 2 = mag x % 2 := by
  unfold mag; omega

/-- The distance of two magnitudes as the distance of whole numbers that `roundMag_nearest` speaks of. -/
theorem abs_units_sub (u n : ℕ) {d : ℕ} (hd : 0 < d) :
    |(u : ℚ) / 2 ^ 1074 - (n : ℚ) / d / 2 ^ 1074| = ((|((u * d : ℕ) : ℤ) - n| : ℤ) : ℚ) / (d * 2 ^ 1074) := by
  have hpow : (0 : ℚ) < 2 ^ 1074 := by positivity
  have hd' : (0 : ℚ) < d := by exact_mod_cast hd
  generalize (2 : ℚ) ^ 1074 = P at *
  have hsub : (u : ℚ) / P - (n : ℚ) / d / P = (((u * d : ℕ) : ℤ) - n : ℤ) / (d * P) := by
    push_cast; field_simp
  rw [hsub, abs_div, abs_of_pos (mul_pos hd' hpow), Int.cast_abs]

/-- Only zero is equally far from a nonzero number and its opposite. -/
theorem eq_zero_of_abs_sub_eq {r q : ℚ} (hr : -r ≠ r) (h : |r - q| = |-r - q|) : q = 0 := by
  rcases abs_eq_abs.1 h with h0 | h0
  · exact absurd (by linarith) hr
  · linarith

/-- Rounding the magnitude and keeping the sign of the exact value rounds the value. A candidate's sign may be left
out: `||y| - |q|| ≤ |y - q|`, so the magnitudes decide, and a tie with `-r` leaves `q = 0`. -/
theorem roundsTo_pack {q : ℚ} {neg : Bool} {n d : ℕ} (hd : 0 < d) (hq : q = signOf neg * ((n : ℚ) / d / 2 ^ 1074))
    (h : InRange q) : RoundsTo q (pack neg (roundMag n d)) := by
  set r := pack neg (roundMag n d) with hr
  have hmag : mag r = roundMag n d := mag_pack _ _ (roundMag_lt n d)
  have habs : |q| = (n : ℚ) / d / 2 ^ 1074 := by rw [hq, abs_signOf_units]
  have hlt := lt_of_inRange hd habs h
  have hpos : (0 : ℚ) < d * 2 ^ 1074 := by positivity
  have hdist (y : F64) :
      |(|val y| - |q|)| = ((|((unitsOf (mag y) * d : ℕ) : ℤ) - n| : ℤ) : ℚ) / (d * 2 ^ 1074) := by
    rw [abs_val, habs, units, abs_units_sub _ _ hd]
  have hself : |val r - q| = |(|val r| - |q|)| := by
    rw [abs_val, habs, units, hmag, hr, val_pack _ (roundMag_lt n d), hq, ← mul_sub, abs_mul, abs_signOf, one_mul]
  refine ⟨isFinite_pack _ (roundMag_lt_infMag hd hlt), fun y _ => ?_⟩
  obtain ⟨hle, htie⟩ := roundMag_nearest hd hlt (mag y)
  have hy : |(|val y| - |q|)| ≤ |val y - q| := abs_abs_sub_abs_le _ _
  have hmags : |(|val r| - |q|)| ≤ |(|val y| - |q|)| := by
    rw [hdist, hdist, hmag]
    exact div_le_div_of_nonneg_right (by exact_mod_cast hle) hpos.le
  refine ⟨hself.trans_le (hmags.trans hy), fun heq hne => ?_⟩
  rw [bits_mod_two, hmag]
  by_cases hm : mag y = roundMag n d
  · have hopp : val y = -val r := (abs_eq_abs.1 (by simp only [abs_val, units, hm, hmag])).resolve_left hne
    rw [hopp] at heq hne
    have hn : n = 0 := by
      rw [eq_zero_of_abs_sub_eq hne heq, abs_zero] at habs
      by_contra hn
      have : (0 : ℚ) < (n : ℚ) / d / 2 ^ 1074 := by positivity
      exact absurd habs this.ne
    rw [hn, roundMag_zero d hd]
  · have hsame : |(|val r| - |q|)| = |(|val y| - |q|)| := hmags.antisymm (by rw [← hself, heq]; exact hy)
    rw [hdist, hdist, hmag, div_left_inj' hpos.ne'] at hsame
    exact htie (by exact_mod_cast hsame) hm

/-! ### Each operation as one rounding -/

/-- An exact zero sum takes the sign of `bothNeg`, any other sum its own. -/
theorem roundSum_eq (s : ℤ) (bothNeg : Bool) :
    roundSum s bothNeg = pack (if s = 0 then bothNeg else decide (s < 0)) (roundMag s.natAbs 1) := by
  unfold roundSum
  split
  · next h => rw [h, Int.natAbs_zero, roundMag_zero 1 one_pos]
  · rfl

/-- The exact sum in units. -/
theorem val_add_val (x y : F64) : val x + val y = ((signedUnits x + signedUnits y : ℤ) : ℚ) / 2 ^ 1074 := by
  rw [val_eq, val_eq, ← add_div, Int.cast_add]

/-- A whole number of units as a sign and a magnitude, whatever sign a zero is given. -/
theorem intCast_eq_signOf (s : ℤ) (bothNeg : Bool) :
    (s : ℚ) = signOf (if s = 0 then bothNeg else decide (s < 0)) * (s.natAbs : ℚ) := by
  rw [Nat.cast_natAbs]
  rcases lt_trichotomy s 0 with h | h | h
  · simp [h.ne, h, signOf, abs_of_neg h]
  · simp [h]
  · simp [h.ne', h.not_gt, signOf, abs_of_pos h]

/-- The exact product as a sign and a quotient of whole numbers of units. -/
theorem val_mul_val (x y : F64) : val x * val y =
    signOf (neg? x != neg? y) * (((units x * units y : ℕ) : ℚ) / (2 ^ 1074 : ℕ) / 2 ^ 1074) := by
  rw [val_eq_signOf, val_eq_signOf, signOf_bne, Nat.cast_mul, Nat.cast_pow, Nat.cast_ofNat]
  generalize (2 : ℚ) ^ 1074 = P
  ring

/-- The exact quotient as a sign and a quotient of whole numbers of units. -/
theorem val_div_val (x y : F64) : val x / val y =
    signOf (neg? x != neg? y) * (((units x * 2 ^ 1074 : ℕ) : ℚ) / units y / 2 ^ 1074) := by
  rw [val_eq_signOf x, val_eq_signOf y, ← signOf_div, mul_div_mul_comm, div_div_div_cancel_right₀ (by positivity),
    Nat.cast_mul, Nat.cast_pow, Nat.cast_ofNat, div_right_comm, mul_div_cancel_right₀ _ (by positivity)]

theorem units_ne_zero {y : F64} (h : val y ≠ 0) : units y ≠ 0 := (val_eq_zero y).not.1 h

/-- Addition in range is one rounding of the exact sum. -/
theorem add_roundsTo {x y : F64} (hx : isFinite x = true) (hy : isFinite y = true) (h : InRange (val x + val y)) :
    RoundsTo (val x + val y) (add x y) := by
  rw [add_of_isFinite hx hy, roundSum_eq]
  refine roundsTo_pack one_pos ?_ h
  rw [val_add_val, Nat.cast_one, div_one, ← mul_div_assoc, ← intCast_eq_signOf]

/-- An exact zero sum is +0.0 unless both operands are negative. -/
theorem add_of_val_add_eq_zero {x y : F64} (hx : isFinite x = true) (hy : isFinite y = true) (h : val x + val y = 0) :
    add x y = pack (neg? x && neg? y) 0 := by
  rw [val_add_val, div_eq_zero_iff, or_iff_left (by positivity), Int.cast_eq_zero] at h
  rw [add_of_isFinite hx hy, roundSum, if_pos h]

/-! ### Exact conversion of integers -/

/-- Every integer of at most 53 bits, scaled by a power of two, is a magnitude of the encoding. -/
theorem exists_unitsOf_eq_mul_pow (e k : ℕ) (hk : k < 2 ^ 53) : ∃ m, unitsOf m = k * 2 ^ e := by
  induction e generalizing k with
  | zero => exact ⟨_, unitsOf_encode 0 k hk (.inl rfl)⟩
  | succ e ih =>
    by_cases hn : 2 ^ 52 ≤ k
    · exact ⟨_, unitsOf_encode (e + 1) k hk (.inr hn)⟩
    · obtain ⟨m, hm⟩ := ih (2 * k) (by omega)
      exact ⟨m, by rw [hm, pow_succ]; ring⟩

/-- An integer below 2^53 is far below the overflow bound. -/
theorem lt_infMag_of_unitsOf_eq {m n : ℕ} (hn : n < 2 ^ 53) (hm : unitsOf m = n * 2 ^ 1074) : m < infMag := by
  refine unitsOf_strictMono.lt_iff_lt.1 ?_
  have hpos := Nat.two_pow_pos 1074
  have hpow : (2 : ℕ) ^ 1074 ≤ 2 ^ 2044 := Nat.pow_le_pow_right two_pos (by norm_num)
  rw [hm, unitsOf_infMag]
  generalize (2 : ℕ) ^ 1074 = a at *
  generalize (2 : ℕ) ^ 2044 = b at *
  nlinarith

/-- `f64(n)` below 2^53: positive, and `n * 2^1074` units exactly. -/
theorem ofNat_eq_pack {n : ℕ} (hn : n < 2 ^ 53) :
    ∃ m < infMag, unitsOf m = n * 2 ^ 1074 ∧ ofNat n = pack false m := by
  obtain ⟨m, hm⟩ := exists_unitsOf_eq_mul_pow 1074 n hn
  have hlt := lt_infMag_of_unitsOf_eq hn hm
  exact ⟨m, hlt, hm, by rw [ofNat, ← hm, ← mul_one (unitsOf m), roundMag_exact m 1 one_pos hlt.le]⟩

/-! ### Operands and results that are not finite -/

/-- A NaN operand makes every operation a NaN. -/
theorem isNaN_of_isNaN_operand {x y : F64} (h : isNaN x = true ∨ isNaN y = true) :
    isNaN (add x y) = true ∧ isNaN (mul x y) = true ∧ isNaN (div x y) = true := by
  have hor : (isNaN x || isNaN y) = true := by simpa using h
  simp [add, mul, div, hor, isNaN_nan]

theorem inRange_zero : InRange 0 := by
  unfold InRange
  rw [abs_zero, sub_pos]
  exact pow_lt_pow_right₀ (by norm_num) (by norm_num)

/-- At or above the overflow bound a sum is infinity of its sign. -/
theorem add_of_not_inRange {x y : F64} (hx : isFinite x = true) (hy : isFinite y = true)
    (h : ¬InRange (val x + val y)) : add x y = pack (decide (val x + val y < 0)) infMag := by
  rw [add_of_isFinite hx hy, roundSum_eq]
  have hs : signedUnits x + signedUnits y ≠ 0 := fun h0 =>
    h (by rw [val_add_val, h0, Int.cast_zero, zero_div]; exact inRange_zero)
  have hneg : val x + val y < 0 ↔ signedUnits x + signedUnits y < 0 := by
    rw [val_add_val, div_lt_iff₀ (by positivity), zero_mul, Int.cast_lt_zero]
  rw [if_neg hs, roundMag_of_not_inRange _ _ 1 one_pos ?_ h, decide_eq_decide.2 hneg]
  rw [val_add_val, Nat.cast_one, div_one, abs_div, abs_of_pos (show (0 : ℚ) < 2 ^ 1074 by positivity),
    ← Int.cast_abs, Nat.cast_natAbs]

/-- At or above the overflow bound a product is infinity of its sign. -/
theorem mul_of_not_inRange {x y : F64} (hx : isFinite x = true) (hy : isFinite y = true)
    (h : ¬InRange (val x * val y)) : mul x y = pack (neg? x != neg? y) infMag := by
  rw [mul_of_isFinite hx hy, roundMag_of_not_inRange _ _ _ (by positivity) ?_ h]
  rw [val_mul_val, abs_signOf_units]

/-- At or above the overflow bound a quotient is infinity of its sign. -/
theorem div_of_not_inRange {x y : F64} (hx : isFinite x = true) (hy : isFinite y = true) (hy0 : val y ≠ 0)
    (h : ¬InRange (val x / val y)) : div x y = pack (neg? x != neg? y) infMag := by
  have hu := units_ne_zero hy0
  rw [div_of_isFinite hx hy hu, roundMag_of_not_inRange _ _ _ (Nat.pos_of_ne_zero hu) ?_ h]
  rw [val_div_val, abs_signOf_units]

theorem div_zero_of_isFinite {x y : F64} (hx : isFinite x = true) (hy : isFinite y = true) (hy0 : units y = 0) :
    div x y = if units x = 0 then nan opDiv x y else pack (neg? x != neg? y) infMag := by
  simp [div, isNaN_of_isFinite hx, isNaN_of_isFinite hy, isInf_of_isFinite hx, isInf_of_isFinite hy, hy0]

section InfinityFinite
variable {x y : F64} (hx : isInf x = true) (hy : isFinite y = true)
include hx hy

theorem add_isInf_isFinite : add x y = x := by
  simp [add, hx, isNaN_of_isInf hx, isNaN_of_isFinite hy, isInf_of_isFinite hy]

theorem add_isFinite_isInf : add y x = x := by
  simp [add, hx, isNaN_of_isInf hx, isNaN_of_isFinite hy, isInf_of_isFinite hy]

theorem mul_isInf_isFinite :
    mul x y = if units y = 0 then nan opMul x y else pack (neg? x != neg? y) infMag := by
  simp [mul, hx, isNaN_of_isInf hx, isNaN_of_isFinite hy, units_ne_zero_of_isInf hx]

theorem mul_isFinite_isInf :
    mul y x = if units y = 0 then nan opMul y x else pack (neg? x != neg? y) infMag := by
  simp [mul, hx, isNaN_of_isInf hx, isNaN_of_isFinite hy, units_ne_zero_of_isInf hx, bne_comm]

theorem div_isInf_isFinite : div x y = pack (neg? x != neg? y) infMag := by
  simp [div, hx, isNaN_of_isInf hx, isNaN_of_isFinite hy, isInf_of_isFinite hy]

theorem div_isFinite_isInf : div y x = pack (neg? x != neg? y) 0 := by
  simp [div, hx, isNaN_of_isInf hx, isNaN_of_isFinite hy, isInf_of_isFinite hy, bne_comm]

end InfinityFinite

section InfinityInfinity
variable {x y : F64} (hx : isInf x = true) (hy : isInf y = true)
include hx hy

theorem add_isInf_isInf : add x y = if neg? x = neg? y then x else nan opAdd x y := by
  by_cases h : neg? x = neg? y <;> simp [add, hx, hy, isNaN_of_isInf hx, isNaN_of_isInf hy, h]

theorem mul_isInf_isInf : mul x y = pack (neg? x != neg? y) infMag := by
  simp [mul, hx, isNaN_of_isInf hx, isNaN_of_isInf hy, units_ne_zero_of_isInf hx, units_ne_zero_of_isInf hy]

theorem div_isInf_isInf : div x y = nan opDiv x y := by
  simp [div, hx, hy, isNaN_of_isInf hx, isNaN_of_isInf hy]

end InfinityInfinity

/-! ### The clauses of `NonFiniteResults` -/

theorem nonFinite_of_isFinite {x y : F64} (hx : isFinite x = true) (hy : isFinite y = true) :
    (¬InRange (val x + val y) → add x y = pack (decide (val x + val y < 0)) infMag) ∧
    (¬InRange (val x - val y) → sub x y = pack (decide (val x - val y < 0)) infMag) ∧
    (¬InRange (val x * val y) → mul x y = pack (neg? x != neg? y) infMag) ∧
    (val y ≠ 0 → ¬InRange (val x / val y) → div x y = pack (neg? x != neg? y) infMag) ∧
    (val y = 0 → val x ≠ 0 → div x y = pack (neg? x != neg? y) infMag) ∧
    (val y = 0 → val x = 0 → isNaN (div x y) = true) := by
  refine ⟨add_of_not_inRange hx hy, fun h => ?_, mul_of_not_inRange hx hy, div_of_not_inRange hx hy,
    fun hy0 hx0 => ?_, fun hy0 hx0 => ?_⟩
  · rw [sub_eq_add_neg, ← val_negate] at h ⊢
    exact add_of_not_inRange hx (by rwa [isFinite_negate]) h
  · rw [div_zero_of_isFinite hx hy ((val_eq_zero y).1 hy0), if_neg (units_ne_zero hx0)]
  · rw [div_zero_of_isFinite hx hy ((val_eq_zero y).1 hy0), if_pos ((val_eq_zero x).1 hx0), isNaN_nan]

theorem nonFinite_of_isInf_isFinite {x y : F64} (hx : isInf x = true) (hy : isFinite y = true) :
    add x y = x ∧ add y x = x ∧ sub x y = x ∧ sub y x = negate x ∧
    (val y ≠ 0 → mul x y = pack (neg? x != neg? y) infMag ∧ mul y x = mul x y) ∧
    (val y = 0 → isNaN (mul x y) = true ∧ isNaN (mul y x) = true) ∧
    div x y = pack (neg? x != neg? y) infMag ∧ div y x = pack (neg? x != neg? y) 0 := by
  have hxn : isInf (negate x) = true := by rwa [isInf_negate]
  have hyn : isFinite (negate y) = true := by rwa [isFinite_negate]
  refine ⟨add_isInf_isFinite hx hy, add_isFinite_isInf hx hy, add_isInf_isFinite hx hyn, add_isFinite_isInf hxn hy,
    fun h => ?_, fun h => ?_, div_isInf_isFinite hx hy, div_isFinite_isInf hx hy⟩
  · simp [mul_isInf_isFinite hx hy, mul_isFinite_isInf hx hy, units_ne_zero h]
  · simp [mul_isInf_isFinite hx hy, mul_isFinite_isInf hx hy, (val_eq_zero y).1 h, isNaN_nan]

theorem nonFinite_of_isInf_isInf {x y : F64} (hx : isInf x = true) (hy : isInf y = true) :
    mul x y = pack (neg? x != neg? y) infMag ∧ isNaN (div x y) = true ∧
    (neg? x = neg? y → add x y = x ∧ isNaN (sub x y) = true) ∧
    (neg? x ≠ neg? y → isNaN (add x y) = true ∧ sub x y = x) := by
  have hyn : isInf (negate y) = true := by rwa [isInf_negate]
  refine ⟨mul_isInf_isInf hx hy, by rw [div_isInf_isInf hx hy, isNaN_nan], fun h => ?_, fun h => ?_⟩ <;>
    simp [sub, add_isInf_isInf hx hy, add_isInf_isInf hx hyn, neg?_negate, h, isNaN_nan]

end Sys2Proof.F64

namespace Sys2Proof

open F64

/-- Settles O47: subtraction is addition of the negated operand. -/
theorem addSubCorrectlyRounded : Obligations.AddSubCorrectlyRounded := by
  intro x y hx hy
  refine ⟨add_roundsTo hx hy, fun h => ?_⟩
  rw [sub_eq_add_neg, ← val_negate] at h ⊢
  exact add_roundsTo hx (by rwa [isFinite_negate]) h

/-- Settles O48: the product of the units over 2^1074 is the exact product in units, and is rounded once. -/
theorem mulCorrectlyRounded : Obligations.MulCorrectlyRounded := by
  intro x y hx hy h
  rw [mul_of_isFinite hx hy]
  exact roundsTo_pack (by positivity) (val_mul_val x y) h

/-- Settles O49: the quotient of the units, scaled by 2^1074, is the exact quotient in units, and is rounded once. -/
theorem divCorrectlyRounded : Obligations.DivCorrectlyRounded := by
  intro x y hx hy hy0 h
  have hu := units_ne_zero hy0
  rw [div_of_isFinite hx hy hu]
  exact roundsTo_pack (Nat.pos_of_ne_zero hu) (val_div_val x y) h

/-- Settles O50: `n` is representable, and rounding keeps what is. -/
theorem integerConversionExact : Obligations.IntegerConversionExact := by
  intro n hn
  obtain ⟨m, hm, hu, he⟩ := ofNat_eq_pack hn
  rw [he]
  refine ⟨isFinite_pack _ hm, ?_⟩
  rw [val_pack _ (hm.trans infMag_lt), hu, Nat.cast_mul, Nat.cast_pow, Nat.cast_ofNat,
    mul_div_cancel_right₀ _ (by positivity), signOf, if_neg Bool.false_ne_true, one_mul]

/-- Settles O51: the signed units compare as the values they stand for. -/
theorem comparisonIsNumeric : Obligations.ComparisonIsNumeric := by
  intro x y
  refine ⟨fun hx hy => ?_, fun h => ?_⟩
  · rw [val_eq, val_eq, div_le_div_iff_of_pos_right (by positivity), Int.cast_le]
    simp [ge, isNaN_of_isFinite hx, isNaN_of_isFinite hy]
  · rcases h with h | h <;> simp [ge, h]

/-- Settles O58: an exact zero sum has the sign `roundSum` is given, and rounding keeps the sign of a product or
quotient. -/
theorem zeroResultSigns : Obligations.ZeroResultSigns := by
  intro x y hx hy
  refine ⟨add_of_val_add_eq_zero hx hy, fun h => ?_, ?_, fun h => ?_⟩
  · rw [sub_eq_add_neg, ← val_negate] at h
    rw [sub, add_of_val_add_eq_zero hx (by rwa [isFinite_negate]) h, neg?_negate]
  · rw [mul_of_isFinite hx hy, neg?_pack _ _ (roundMag_lt _ _)]
  · rw [div_of_isFinite hx hy (units_ne_zero h), neg?_pack _ _ (roundMag_lt _ _)]

/-- Settles O59, clause by clause: NaN operands, finite operands, one infinity, two infinities. -/
theorem nonFiniteResults : Obligations.NonFiniteResults := by
  intro x y
  refine ⟨fun h => ?_, nonFinite_of_isFinite, nonFinite_of_isInf_isFinite, nonFinite_of_isInf_isInf⟩
  obtain ⟨hadd, hmul, hdiv⟩ := isNaN_of_isNaN_operand h
  obtain ⟨hsub, -, -⟩ := isNaN_of_isNaN_operand (x := x) (y := negate y) (by rwa [isNaN_negate])
  exact ⟨hadd, hsub, hmul, hdiv⟩

end Sys2Proof
end

section
/-! PROOFS. What one step runs, stated forwards (10_state.md R26; 20_memory.md R62; 30_encoding.md R93; 70_reset_and_hazards.md
R275): the converse of `step_next_cases`, and the stops. -/

namespace Sys2Proof.Machine

variable {s s1 : State} {i : Instr} {hs : List HostWord}

theorem decodeEvent_of_ev_zero {h : HostWord} (he : h.ev = 0b00) : decodeEvent h = .error .noEvent := by
  simp [decodeEvent, he]

theorem State.setHost_of_host_eq (h : s.host = hs) : s.setHost hs = s := by rw [← h]; rfl

theorem step_of_takesEvent (h : TakesEvent s i s1) : step s = exec i s1 := by
  obtain ⟨w, hs, hh, hd, rfl⟩ := h
  simp [step, fetch, hh, hd]

theorem step_of_takesToken (h : TakesToken s i s1) : step s = exec i s1 := by
  obtain ⟨hs, t, rest, hh, hr, hc, hd, rfl⟩ := h
  have hf : fetchToken (s.setHost hs) = some (i, (s.setHost hs).setChan rest) :=
    fetchToken_some.2 ⟨hr, t, rest, hc, hd, rfl⟩
  rcases hh with ⟨hh, rfl⟩ | ⟨w, hh, hw⟩
  · rw [State.setHost_of_host_eq hh] at hf ⊢
    simp [step, fetch, hh, hf]
  · simp [step, fetch, hh, hw, hf]

/-- The engine has no step: in_ready fails, or no token is left. -/
def EngineIdle (s : State) : Prop := s.inReady = false ∨ s.chan = []

theorem EngineIdle.fetchToken_setHost (h : EngineIdle s) : fetchToken (s.setHost hs) = none :=
  (fetchToken_none _).2 h

theorem step_of_eventless {w : HostWord} (he : EngineIdle s) (hh : s.host = w :: hs)
    (hw : decodeEvent w = .error .noEvent) : step s = .next (s.setHost hs) := by
  simp [step, fetch, hh, hw, he.fetchToken_setHost]

theorem step_of_host_nil (he : EngineIdle s) (hh : s.host = []) : step s = .fault s.whyStopped := by
  have hf : fetchToken s = none := (fetchToken_none _).2 he
  simp [step, fetch, hh, hf]

/-- What a step does is settled by the state: a host event, a token operation, an eventless entry, or a stop. -/
theorem step_enabled_cases (s : State) :
    (∃ i s1, TakesEvent s i s1) ∨ (∃ i s1, TakesToken s i s1) ∨
    (EngineIdle s ∧ ∃ w hs, s.host = w :: hs ∧ decodeEvent w = .error .noEvent) ∨ (EngineIdle s ∧ s.host = []) := by
  by_cases hidle : EngineIdle s
  · rcases hh : s.host with _ | ⟨w, hs⟩
    · exact .inr (.inr (.inr ⟨hidle, rfl⟩))
    · cases hw : decodeEvent w with
      | ok i => exact .inl ⟨i, _, w, hs, hh, hw, rfl⟩
      | error e =>
        obtain ⟨-, rfl⟩ := decodeEvent_error hw
        exact .inr (.inr (.inl ⟨hidle, w, hs, rfl, hw⟩))
  · simp only [EngineIdle, not_or, Bool.not_eq_false] at hidle
    obtain ⟨hr, hc⟩ := hidle
    obtain ⟨t, rest, hc⟩ := List.exists_cons_of_ne_nil hc
    obtain ⟨i, hi⟩ := decodeToken_reading ((State.inReady_iff s).1 hr).2.1 t
    rcases hh : s.host with _ | ⟨w, hs⟩
    · exact .inr (.inl ⟨i, _, [], t, rest, .inl ⟨hh, rfl⟩, hr, hc, hi, rfl⟩)
    · cases hw : decodeEvent w with
      | ok i => exact .inl ⟨i, _, w, hs, hh, hw, rfl⟩
      | error e =>
        obtain ⟨-, rfl⟩ := decodeEvent_error hw
        exact .inr (.inl ⟨i, _, hs, t, rest, .inr ⟨w, hh, hw⟩, hr, hc, hi, rfl⟩)

end Sys2Proof.Machine

namespace Sys2Proof

open Machine

/-- Settles O7: in_ready holds and the consumer has no event, so the step takes the oldest token. -/
theorem stepRunsDecodedToken : Obligations.StepRunsDecodedToken := by
  intro s i t rest hs hreq hphase hfault hrefused hchan hhost hd
  refine step_of_takesToken ⟨hs, t, rest, ?_, (State.inReady_iff s).2 ⟨hreq, hphase, hfault, hrefused⟩, hchan, hd, rfl⟩
  exact hhost.imp_right fun ⟨h, hh, he⟩ => ⟨h, hh, decodeEvent_of_ev_zero he⟩

/-- Settles O9: the engine has no step, and `whyStopped` reads FAULT and REFUSED before PHASE. -/
theorem stepWithoutEnabledAgent : Obligations.StepWithoutEnabledAgent := by
  intro s hchan
  have hidle : EngineIdle s := by
    rw [← State.inReady_iff] at hchan
    exact (Bool.eq_false_or_eq_true s.inReady).symm.imp_right hchan
  refine ⟨fun h hs hh he => step_of_eventless hidle hh (decodeEvent_of_ev_zero he), fun hh hset => ?_,
    fun hh hf hr hp => ?_, fun hh hf hr hp => ?_⟩ <;> rw [step_of_host_nil hidle hh]
  · have hrun : s.running = false := by
      rw [Bool.eq_false_iff, Ne, State.running_iff]
      rintro ⟨hf, hr⟩
      simp [hf, hr] at hset
    simp [State.whyStopped, hrun]
  · simp [State.whyStopped, State.running, hf, hr, hp]
  · simp [State.whyStopped, State.running, hf, hr, hp]

end Sys2Proof
end

section
/-! PROOFS. What each operation keeps. A token operation before CSUM writes only the frame's own registers and PHASE; the
rest of the state, its control part, changes at CSUM, FAIL and the host events alone (10_state.md R21, R48). -/

namespace Sys2Proof.Machine

/-! ### The frame's registers -/

/-- The frame field registers, IDX and the point registers (R30 to R38), those whose contents R48 hides. -/
structure FrameRegs where
  msgType   : BitVec 3
  len       : BitVec 5
  speed     : U16
  startRaw  : U16
  endRaw    : U16
  timestamp : U16
  checksum  : Byte
  idx       : Fin 31
  ptDist    : Vector U16 31
  ptInt     : Vector Byte 31

def State.frameRegs (s : State) : FrameRegs where
  msgType   := s.msgType
  len       := s.len
  speed     := s.speed
  startRaw  := s.startRaw
  endRaw    := s.endRaw
  timestamp := s.timestamp
  checksum  := s.checksum
  idx       := s.idx
  ptDist    := s.ptDist
  ptInt     := s.ptInt

/-- The state with other frame registers; every other field is kept. -/
def State.withFrame (r : FrameRegs) (s : State) : State :=
  { s with
    msgType := r.msgType, len := r.len, speed := r.speed, startRaw := r.startRaw, endRaw := r.endRaw
    timestamp := r.timestamp, checksum := r.checksum, idx := r.idx, ptDist := r.ptDist, ptInt := r.ptInt }

section
variable (s : State) (r : FrameRegs)
@[simp] theorem withFrame_mode : (s.withFrame r).mode = s.mode := rfl
@[simp] theorem withFrame_phase : (s.withFrame r).phase = s.phase := rfl
end

/-! ### What the operations do, case by case -/

variable {s s' : State} {b : Byte} {i : Instr}

theorem decodeByte_hunt (hd : decodeByte .hunt b = .ok i) : i = .huntSync ∨ i = .huntSkip b := by
  rcases decodeByte_ok hd with ⟨-, -, h⟩ | ⟨-, -, h⟩ | h
  · exact .inl h
  · exact .inr h
  · simp at h

/-- A byte before CSUM: the step goes to a reading phase and writes nothing but PHASE and the frame's registers. -/
theorem exec_frameByte (hd : decodeByte s.phase b = .ok i) (hp : s.phase ≠ .csum) (he : exec i s = .next s') :
    ∃ p r, p.reading = true ∧ s' = (s.setPhase p).withFrame r := by
  suffices h : s'.phase.reading = true ∧ s' = (s.setPhase s'.phase).withFrame s'.frameRegs from ⟨_, _, h⟩
  cases hph : s.phase <;> rw [hph] at hd
  case csum => exact absurd hph hp
  case hunt =>
    rcases decodeByte_hunt hd with rfl | rfl <;> cases he <;> exact ⟨rfl, rfl⟩
  case staH =>
    cases hd; cases he
    refine ⟨?_, rfl⟩
    cases hasPoints s <;> rfl
  case int =>
    cases hd; cases he
    cases morePoints s <;> exact ⟨rfl, rfl⟩
  all_goals cases hd <;> cases he <;> exact ⟨rfl, rfl⟩

/-- IDX is 0 from HUNT.SYNC to STA.H and below LEN in the payload (R124, R140), as `State.Inv` has it. -/
def State.IdxInPlace (s : State) : Prop :=
  (s.phase ∈ [Phase.info, .spdL, .spdH, .staL, .staH] → s.idx = 0) ∧
  (s.phase ∈ [Phase.dstL, .dstH, .int] → s.idx.val < s.len.toNat)

theorem hasPoints_iff (s : State) : hasPoints s = true ↔ 0 < s.len.toNat := by simp [hasPoints]

theorem morePoints_iff (s : State) : morePoints s = true ↔ s.idx.val + 1 < s.len.toNat := by simp [morePoints]

/-- `IDX + 1 < LEN` keeps `IDX + 1` at most 30 (R142). -/
theorem idx_succ_val (h : morePoints s = true) : (s.idx + 1).val = s.idx.val + 1 := by
  have := s.len.isLt
  rw [morePoints_iff] at h
  rw [Fin.val_add_one_of_lt' (by omega)]

theorem exec_frameByte_idxInPlace (h : s.IdxInPlace) (hd : decodeByte s.phase b = .ok i) (hp : s.phase ≠ .csum)
    (he : exec i s = .next s') : s'.IdxInPlace := by
  obtain ⟨hstart, hbelow⟩ := h
  cases hph : s.phase <;> rw [hph] at hd hstart hbelow
  case csum => exact absurd hph hp
  case hunt =>
    rcases decodeByte_hunt hd with rfl | rfl <;> cases he <;> simp [State.IdxInPlace]
  case staH =>
    cases hd; cases he
    by_cases hlen : hasPoints s
    · simpa [State.IdxInPlace, hlen, hstart] using (hasPoints_iff s).1 hlen
    · simp [State.IdxInPlace, hlen]
  case int =>
    cases hd; cases he
    by_cases hmore : morePoints s
    · simpa [State.IdxInPlace, hmore, idx_succ_val hmore] using (morePoints_iff s).1 hmore
    · simp [State.IdxInPlace, hmore]
  all_goals cases hd <;> cases he <;> simp_all [State.IdxInPlace]

/-- What a step did in the state `s1` that has used up the consumer's entry and the token, and what that step asked of the
state. -/
inductive StepEffect (s s1 : State) : State → Prop
  | eventless : StepEffect s s1 s1
  | refuse : StepEffect s s1 s1.refuse
  | pull : pullAllowed s1 = true → StepEffect s s1 s1.pull
  | take (it : Item) : s1.out = some it → StepEffect s s1 (s1.handOver it)
  | reset (w : HostWord) : s.host = w :: s1.host → w.ev = 0b11 →
      resetAllowed (Mode.ofCode w.cfgMode) w.cfgRotTarget = true →
      StepEffect s s1 (s1.applyReset (Mode.ofCode w.cfgMode) w.cfgRotTarget)
  | frameByte (b : Byte) (i : Instr) (s' : State) : s1.inReady = true → decodeByte s1.phase b = .ok i →
      s1.phase ≠ .csum → exec i s1 = .next s' → StepEffect s s1 s'
  | csum (b : Byte) : s1.inReady = true → s1.phase = .csum → StepEffect s s1 (frameComplete (s1.setChecksum b))
  | fail : s1.inReady = true → StepEffect s s1 (raiseTransportError s1)

theorem stepEffect_of_event {w : HostWord} {s1 : State} (hh : s.host = w :: s1.host) (hd : decodeEvent w = .ok i)
    (he : exec i s1 = .next s') : StepEffect s s1 s' := by
  rcases decodeEvent_ok hd with ⟨-, rfl⟩ | ⟨-, rfl⟩ | ⟨hev, rfl⟩ <;> cases he
  · cases hp : pullAllowed s1
    · exact .refuse
    · exact .pull hp
  · cases ho : s1.out with
    | none => exact .refuse
    | some it =>
      cases s1.running
      · exact .refuse
      · exact .take it ho
  · cases hr : resetAllowed (Mode.ofCode w.cfgMode) w.cfgRotTarget
    · exact .refuse
    · exact .reset w hh hev hr

theorem stepEffect_of_token {s1 : State} {t : Token} (hr : s1.inReady = true)
    (hd : decodeToken (decodeWord s1.phase t) = .ok i) (he : exec i s1 = .next s') : StepEffect s s1 s' := by
  rcases decodeToken_ok hd with ⟨-, -, rfl⟩ | ⟨-, hb⟩
  · cases he; exact .fail hr
  · by_cases hp : s1.phase = .csum
    · rw [hp] at hb
      cases hb; cases he
      exact .csum _ hr hp
    · exact .frameByte _ _ _ hr hb hp he

/-- Everything a step that answers a next state can do, with what it did in the state the operation ran in. -/
theorem step_effect (h : step s = .next s') :
    ∃ hs ts, StepEffect s ((s.setHost hs).setChan ts) s' := by
  rcases step_next_cases h with ⟨i, s1, ⟨w, hs, hh, hd, rfl⟩, he⟩ | ⟨i, s1, ⟨hs, t, ts, -, hr, -, hd, rfl⟩, he⟩ |
    ⟨w, hs, -, -, -, rfl⟩
  · exact ⟨hs, s.chan, stepEffect_of_event hh hd he⟩
  · exact ⟨hs, ts, stepEffect_of_token hr hd he⟩
  · exact ⟨hs, s.chan, .eventless⟩

end Sys2Proof.Machine
end

section
/-! PROOFS. The invariant of the block, operation by operation (10_state.md R22 to R43; 70_reset_and_hazards.md R260). -/

namespace Sys2Proof.Machine

variable {s s' : State} {b : Byte} {i : Instr}

theorem State.Inv.idxInPlace (h : s.Inv) : s.IdxInPlace := ⟨h.idxStart, h.idxBelow⟩

/-- The invariant reads neither the channel nor the consumer's signals. -/
theorem State.Inv.fetched (h : s.Inv) (hs : List HostWord) (ts : List Token) : ((s.setHost hs).setChan ts).Inv := { h with }

theorem State.Inv.refuse (h : s.Inv) : s.refuse.Inv := { h with }

theorem State.Inv.setChecksum (h : s.Inv) (b : Byte) : (s.setChecksum b).Inv := { h with }

theorem State.Inv.handOver (h : s.Inv) (it : Item) : (s.handOver it).Inv :=
  { h with outReq := by simp, outFits := by simp }

theorem inv_applyReset (m : Mode) (rot : BitVec 32) (s : State) (h : resetAllowed m rot = true) :
    (s.applyReset m rot).Inv := by
  rw [resetAllowed_iff] at h
  constructor <;> simp [Phase.reading]
  exact fun hm hr => h ⟨hm, hr⟩

/-- A byte before CSUM keeps the control part, and FAULT is not set where a token is taken. -/
theorem State.Inv.frameByte (h : s.Inv) (hr : s.inReady = true) {p : Phase} {r : FrameRegs} (hp : p.reading = true)
    (hidx : ((s.setPhase p).withFrame r).IdxInPlace) : ((s.setPhase p).withFrame r).Inv := by
  obtain ⟨hreq, hreading, hfault, -⟩ := (State.inReady_iff s).1 hr
  exact { h with
    reqReading := hreq.trans hp.symm
    idxStart := hidx.1
    idxBelow := hidx.2
    pbufExhausted := fun _ => h.pbufExhausted hreading
    termMode := fun ht => by cases ht; cases hp
    faultWhere := fun hf => absurd hfault hf }

/-- A delivery that ends in IDLE leaves OUT full and the engine without a PULL (R14). -/
theorem State.Inv.deliver_idle (h : s.Inv) (hf : s.fault = none) {it : Item} (hfit : itemFits s.mode it) :
    ((s.deliver it).setPhase .idle).Inv :=
  { h with
    reqReading := rfl
    outReq := fun _ => rfl
    outFits := by simpa using hfit
    idxStart := by simp
    idxBelow := by simp
    pbufExhausted := by simp [Phase.reading]
    termMode := by simp
    faultWhere := fun hs => absurd hf hs }

theorem State.Inv.setPending_nil (h : s.Inv) : (s.setPending [] State.covered0).Inv :=
  { h with
    pendingMode := fun _ => ⟨rfl, rfl⟩
    pendingBound := by simp
    termMode := fun ht => by simpa using (h.termMode ht).imp_right And.left }

theorem State.Inv.raiseTransportError (h : s.Inv) (hf : s.fault = none) : (raiseTransportError s).Inv := by
  rcases raiseTransportError_cases s with ⟨hm, he⟩ | ⟨hm, he⟩ <;> rw [he]
  · exact h.deliver_idle hf (by rw [hm]; trivial)
  · exact { h with
      reqReading := rfl
      outReq := fun _ => rfl
      outFits := by cases hmode : s.mode <;> simp_all [itemFits]
      idxStart := by simp
      idxBelow := by simp
      pbufSize := by simp
      pbufExhausted := by simp
      pbufMode := by simp
      pendingMode := by simp
      pendingBound := by simp
      termMode := by simpa using hm
      faultWhere := fun hs => absurd hf hs }

/-- A PULL within its precondition (R190): End in TERM, the next point of PBUF, or a decode with PBUF exhausted. -/
theorem State.Inv.pull (h : s.Inv) (hp : pullAllowed s = true) : s.pull.Inv := by
  obtain ⟨hreq, hout, hfault, -⟩ := (pullAllowed_iff s).1 hp
  have hnr : s.phase.reading = false := h.reqReading.symm.trans hreq
  rcases pull_cases s with ⟨ht, he⟩ | ⟨ht, p, hw, he⟩ | ⟨ht, hw, he⟩ <;> rw [he]
  · obtain ⟨hm, -⟩ := h.termMode ht
    exact { h with
      reqReading := hnr.symm
      outReq := fun _ => rfl
      outFits := by cases hmode : s.mode <;> simp_all [itemFits] }
  · obtain ⟨hm, hget⟩ := (waitingPoint_iff s p).1 hw
    have hlt := (List.getElem?_eq_some_iff.1 hget).1
    exact { h with
      reqReading := hnr.symm
      outReq := fun _ => rfl
      outFits := by simp [hm, itemFits]
      pbufSize := ⟨h.pbufSize.1, hlt⟩
      pbufExhausted := by simp [hnr]
      pbufMode := by simp [hm] }
  · have hexh : s.pbNext = s.pbuf.length := by
      by_cases hm : s.mode = .points
      · have hle : s.pbuf.length ≤ s.pbNext := by simpa [waitingPoint, hm] using hw
        exact le_antisymm h.pbufSize.2 hle
      · obtain ⟨hb, hn⟩ := h.pbufMode hm
        rw [hb, hn, List.length_nil]
    exact { h with
      reqReading := rfl
      outReq := fun ho => absurd hout ho
      idxStart := by simp
      idxBelow := by simp
      pbufExhausted := fun _ => hexh
      termMode := by simp
      faultWhere := fun hs => absurd hfault hs }

/-- RotFrame in ROTATIONS mode (R211, R216): the points that are appended fit a bounded PENDING_CAP. -/
theorem State.Inv.rotFrame (h : s.Inv) (hr : s.inReady = true) (hp : s.phase = .csum) (hm : s.mode = .rotations) {f : Frame}
    (hf : f.points.length = f.len.toNat) : (rotFrame f s).Inv := by
  obtain ⟨hreq, hreading, hfault, -⟩ := (State.inReady_iff s).1 hr
  have hacc (ho : overflows s f.len.toNat = false) : ((s.accumulate f).setPhase .hunt).Inv :=
    { h with
      reqReading := hreq
      idxStart := by simp
      idxBelow := by simp
      pbufExhausted := fun _ => h.pbufExhausted hreading
      pendingMode := fun hne => absurd hm hne
      pendingBound := fun cap hcap => by
        rw [← Bool.not_eq_true, overflows_iff] at ho
        have hcap : s.pendingCap = some cap := hcap
        simp only [hcap, not_exists, not_and, not_lt] at ho
        simpa [State.accumulate, hf] using ho cap rfl
      termMode := by simp
      faultWhere := fun hs => absurd hfault hs }
  rcases rotFrame_cases f s with ⟨ho, he⟩ | ⟨ho, -, he⟩ | ⟨ho, -, he⟩ <;> rw [he]
  · obtain ⟨cap, hcap, -⟩ := (overflows_iff _ _).1 ho
    exact { h with faultWhere := fun _ => ⟨hm, hp, by simp [hcap]⟩ }
  · exact (hacc ho).setPending_nil.deliver_idle hfault (by simp [State.accumulate, hm, itemFits])
  · exact hacc ho

theorem State.Inv.frameComplete (h : s.Inv) (hr : s.inReady = true) (hp : s.phase = .csum) : (frameComplete s).Inv := by
  obtain ⟨hreq, hreading, hfault, -⟩ := (State.inReady_iff s).1 hr
  have hlen : (framePoints s).length ≤ Config.lenMax := by
    have := s.len.isLt
    rw [framePoints_length]; exact Nat.le_of_lt_succ this
  rcases dispatchFrame_cases (completedFrame s) s with ⟨hm, he⟩ | ⟨hm, hps, he⟩ | ⟨hm, p, ps, hps, he⟩ | ⟨hm, he⟩ <;>
    rw [Machine.frameComplete, he]
  · exact h.deliver_idle hfault (by rcases hm with hm | hm <;> simp [hm, itemFits])
  · exact { h with
      reqReading := hreq
      idxStart := by simp
      idxBelow := by simp
      pbufSize := by simp
      pbufExhausted := by simp
      pbufMode := by simp
      termMode := by simp
      faultWhere := fun hs => absurd hfault hs }
  · rw [completedFrame_points] at hps
    rw [hps] at hlen
    exact { h with
      reqReading := rfl
      outReq := fun _ => rfl
      outFits := by simp [hm, itemFits]
      idxStart := by simp
      idxBelow := by simp
      pbufSize := ⟨hlen, by simp⟩
      pbufExhausted := by simp [Phase.reading]
      pbufMode := by simp [hm]
      termMode := by simp
      faultWhere := fun hs => absurd hfault hs }
  · exact h.rotFrame hr hp hm (by simp)

end Sys2Proof.Machine

namespace Sys2Proof

open Machine

/-- Settles O29, operation by operation. -/
theorem invariantKeptByStep : Obligations.InvariantKeptByStep := by
  intro s s' h hstep
  obtain ⟨hs, ts, heff⟩ := step_effect hstep
  have h1 := h.fetched hs ts
  cases heff with
  | eventless => exact h1
  | refuse => exact h1.refuse
  | pull hp => exact h1.pull hp
  | take it _ => exact h1.handOver it
  | reset w _ _ hr => exact inv_applyReset _ _ _ hr
  | frameByte b i s' hr hd hp he =>
    obtain ⟨p, r, hreading, rfl⟩ := exec_frameByte hd hp he
    exact h1.frameByte hr hreading (exec_frameByte_idxInPlace h1.idxInPlace hd hp he)
  | csum b hr hp => exact (h1.setChecksum b).frameComplete hr hp
  | fail hr =>
    obtain ⟨-, -, hfault, -⟩ := (State.inReady_iff _).1 hr
    exact h1.raiseTransportError hfault

end Sys2Proof
end

section
/-! PROOFS. What only RESET and TAKE change (10_state.md R21, R28; 45_streams.md R191). -/

namespace Sys2Proof.Machine

/-- The configuration: MODE, ROT_TARGET and PENDING_CAP. -/
def State.config (s : State) : Mode × BitVec 32 × Option Nat := (s.mode, s.rotTarget, s.pendingCap)

theorem config_pull (s : State) : s.pull.config = s.config := by
  rcases pull_cases s with ⟨-, he⟩ | ⟨-, p, -, he⟩ | ⟨-, -, he⟩ <;> rw [he] <;> rfl

theorem config_raiseTransportError (s : State) : (raiseTransportError s).config = s.config := by
  rcases raiseTransportError_cases s with ⟨-, he⟩ | ⟨-, he⟩ <;> rw [he] <;> rfl

theorem config_rotFrame (f : Frame) (s : State) : (rotFrame f s).config = s.config := by
  rcases rotFrame_cases f s with ⟨-, he⟩ | ⟨-, -, he⟩ | ⟨-, -, he⟩ <;> rw [he] <;> rfl

theorem config_frameComplete (s : State) : (frameComplete s).config = s.config := by
  rcases dispatchFrame_cases (completedFrame s) s with ⟨-, he⟩ | ⟨-, -, he⟩ | ⟨-, p, ps, -, he⟩ | ⟨-, he⟩ <;>
    rw [frameComplete, he]
  case inr.inr.inr => exact config_rotFrame _ _
  all_goals rfl

/-- Every step but an accepted RESET keeps the configuration. -/
theorem StepEffect.config {s s1 s' : State} (h : StepEffect s s1 s') :
    s'.config = s1.config ∨ ∃ w, s.host = w :: s1.host ∧ w.ev = 0b11 ∧
      s' = s1.applyReset (Mode.ofCode w.cfgMode) w.cfgRotTarget := by
  cases h with
  | eventless => exact .inl rfl
  | refuse => exact .inl rfl
  | pull => exact .inl (config_pull s1)
  | take => exact .inl rfl
  | reset w hh hev => exact .inr ⟨w, hh, hev, rfl⟩
  | frameByte b i s' hr hd hp he =>
    obtain ⟨p, r, -, rfl⟩ := exec_frameByte hd hp he
    exact .inl rfl
  | csum b => exact .inl (config_frameComplete _)
  | fail => exact .inl (config_raiseTransportError s1)

end Sys2Proof.Machine

namespace Sys2Proof

open Machine

/-- Settles O32: a RESET loads its inputs and keeps PENDING_CAP, every other step keeps the configuration. -/
theorem configurationChangesOnlyByReset : Obligations.ConfigurationChangesOnlyByReset := by
  intro s s' hstep
  obtain ⟨hs, ts, heff⟩ := step_effect hstep
  rcases heff.config with hcfg | ⟨w, hh, hev, rfl⟩
  · simp only [State.config, Prod.mk.injEq] at hcfg
    obtain ⟨hm, hrot, hcap⟩ := hcfg
    exact ⟨hcap, .inl ⟨hm, hrot⟩⟩
  · exact ⟨rfl, .inr ⟨w, _, hh, hev, Mode.code_ofCode _, rfl⟩⟩

/-- Settles O37: with an item in OUT the invariant has REQ = 0, so no token is taken and a PULL is refused. -/
theorem itemNeverOverwritten : Obligations.ItemNeverOverwritten := by
  intro s s' it hinv hout hstep
  obtain ⟨hs, ts, heff⟩ := step_effect hstep
  have hready : ¬((s.setHost hs).setChan ts).inReady = true := by
    have hreq : s.req = false := hinv.outReq (by simp [hout])
    simp [State.inReady, hreq]
  cases heff with
  | eventless => exact .inl ⟨hout, rfl⟩
  | refuse => exact .inl ⟨hout, rfl⟩
  | pull hp =>
    obtain ⟨-, hnone, -⟩ := (pullAllowed_iff _).1 hp
    exact absurd (hnone.symm.trans hout) nofun
  | take it' hit =>
    cases Option.some.inj (hit.symm.trans hout)
    exact .inr (.inl ⟨rfl, rfl⟩)
  | reset w hh hev => exact .inr (.inr ⟨rfl, rfl, w, _, hh, hev⟩)
  | frameByte b i s' hr => exact absurd hr hready
  | csum b hr => exact absurd hr hready
  | fail hr => exact absurd hr hready

end Sys2Proof
end

section
/-! PROOFS. COVERED stays finite (46_rotation.md R210, R211): a sweep is far below half a unit in the last place of the largest
finite value, so even that value is not carried over the overflow bound. -/

namespace Sys2Proof.F64

variable {x y : F64}

/-- Rounding at most doubles a magnitude, since zero is a candidate. -/
theorem abs_val_le_of_roundsTo {q : ℚ} (h : RoundsTo q x) : |val x| ≤ 2 * |q| := by
  have hzero : val ⟨0⟩ = 0 := (val_eq_zero _).2 (by decide)
  obtain ⟨hle, -⟩ := h.2 ⟨0⟩ (by decide)
  rw [hzero, zero_sub, abs_neg] at hle
  have := abs_sub_abs_le_abs_sub (val x) q
  linarith

/-- The value is finite and of magnitude at most `a`. -/
def Within (a : ℚ) (x : F64) : Prop := isFinite x = true ∧ |val x| ≤ a

/-- The overflow bound in units of half the last place of the largest finite value. -/
theorem inRange_iff (q : ℚ) : InRange q ↔ |q| < (2 ^ 54 - 1) * 2 ^ 970 := by
  rw [InRange, sub_one_mul, ← pow_add]

theorem two_pow_20_lt : (2 : ℚ) ^ 20 < 2 ^ 970 := pow_lt_pow_right₀ one_lt_two (by norm_num)

/-- The bound that every sum behind a sweep keeps is far below the overflow bound. -/
theorem inRange_of_abs_le {q : ℚ} (h : |q| ≤ 2 ^ 20) : InRange q := by
  rw [inRange_iff]
  have hlt := two_pow_20_lt
  generalize (2 : ℚ) ^ 970 = P at *
  linarith

theorem within_of_roundsTo {q a : ℚ} (h : |q| ≤ 2 ^ 20 → RoundsTo q x) (hq : |q| ≤ a) (ha : a ≤ 2 ^ 20) :
    Within (2 * a) x :=
  have hr := h (hq.trans ha)
  ⟨hr.1, (abs_val_le_of_roundsTo hr).trans (by linarith)⟩

theorem Within.add {a b : ℚ} (hx : Within a x) (hy : Within b y) (hab : a + b ≤ 2 ^ 20) :
    Within (2 * (a + b)) (add x y) :=
  within_of_roundsTo (fun h => add_roundsTo hx.1 hy.1 (inRange_of_abs_le h))
    ((abs_add_le _ _).trans (add_le_add hx.2 hy.2)) hab

theorem Within.negate {a : ℚ} (hx : Within a x) : Within a (negate x) := by
  rwa [Within, isFinite_negate, val_negate, abs_neg]

theorem Within.sub {a b : ℚ} (hx : Within a x) (hy : Within b y) (hab : a + b ≤ 2 ^ 20) :
    Within (2 * (a + b)) (sub x y) := hx.add hy.negate hab

theorem within_ofNat {n : ℕ} (hn : n < 2 ^ 53) : Within n (ofNat n) := by
  obtain ⟨hfin, hval⟩ := integerConversionExact n hn
  exact ⟨hfin, by rw [hval, Nat.abs_cast]⟩

/-- The largest finite magnitude as a rational. -/
theorem abs_val_le_of_isFinite (h : isFinite x = true) : |val x| ≤ (2 ^ 54 - 2) * 2 ^ 970 := by
  have hmag : mag x < infMag := by simpa [isFinite] using h
  have hunits : units x ≤ (2 ^ 54 - 2) * 2 ^ 2044 := by
    rw [← unitsOf_infMag_pred]
    exact unitsOf_strictMono.monotone (Nat.le_pred_of_lt hmag)
  rw [abs_val, div_le_iff₀ (by positivity), mul_assoc, ← pow_add]
  calc (units x : ℚ) ≤ (((2 ^ 54 - 2) * 2 ^ 2044 : ℕ) : ℚ) := by exact_mod_cast hunits
    _ = (2 ^ 54 - 2) * 2 ^ (970 + 1074) := by
      rw [Nat.cast_mul, Nat.cast_pow, Nat.cast_sub (by norm_num), Nat.cast_pow, Nat.cast_ofNat]

/-- Adding a small value to a finite one gives a finite one. -/
theorem isFinite_add_within (hx : isFinite x = true) (hy : Within (2 ^ 20) y) : isFinite (add x y) = true := by
  refine (add_roundsTo hx hy.1 ?_).1
  have habs : |val x + val y| ≤ (2 ^ 54 - 2) * 2 ^ 970 + 2 ^ 20 :=
    (abs_add_le _ _).trans (add_le_add (abs_val_le_of_isFinite hx) hy.2)
  rw [inRange_iff]
  have hlt := two_pow_20_lt
  generalize (2 : ℚ) ^ 970 = P at *
  linarith

end Sys2Proof.F64

namespace Sys2Proof.Machine

open F64

/-- A raw angle is below 656 degrees, and rounding at most doubles it (R170). -/
theorem within_degrees (raw : U16) : Within (2 * 656) (degrees raw) := by
  have hraw : raw.toNat < 65536 := raw.isLt
  obtain ⟨hfin, hval⟩ := integerConversionExact raw.toNat (by omega)
  obtain ⟨hfin100, hval100⟩ := integerConversionExact 100 (by norm_num)
  have hq : |val (ofNat raw.toNat) / val (ofNat 100)| ≤ 656 := by
    rw [hval, hval100, abs_div, Nat.abs_cast, Nat.abs_cast, Nat.cast_ofNat, div_le_iff₀ (by norm_num)]
    exact_mod_cast (by omega : raw.toNat ≤ 656 * 100)
  refine within_of_roundsTo (fun h => ?_) hq (by norm_num)
  exact divCorrectlyRounded _ _ hfin hfin100 (by rw [hval100]; norm_num) (inRange_of_abs_le h)

/-- Both branches of the sweep are small (R210). -/
theorem within_sweep (a0 a1 : U16) : Within (2 ^ 20) (sweep (degrees a0) (degrees a1)) := by
  have h0 := within_degrees a0
  have h1 := within_degrees a1
  have h360 : Within (360 : ℕ) c360 := within_ofNat (by norm_num)
  unfold sweep
  split
  · have := h1.sub h0 (by norm_num)
    exact ⟨this.1, this.2.trans (by norm_num)⟩
  · have := (h360.sub h0 (by norm_num)).add h1 (by norm_num)
    exact ⟨this.1, this.2.trans (by norm_num)⟩

variable {s : State}

theorem isFinite_covered0 : F64.isFinite State.covered0 = true := by decide

theorem isFinite_covered_pull (h : F64.isFinite s.covered = true) : F64.isFinite s.pull.covered = true := by
  rcases pull_cases s with ⟨-, he⟩ | ⟨-, p, -, he⟩ | ⟨-, -, he⟩ <;> rw [he] <;> exact h

theorem isFinite_covered_raiseTransportError (h : F64.isFinite s.covered = true) :
    F64.isFinite (raiseTransportError s).covered = true := by
  rcases raiseTransportError_cases s with ⟨-, he⟩ | ⟨-, he⟩ <;> rw [he]
  · exact h
  · exact isFinite_covered0

theorem covered_accumulate_completedFrame (s : State) : (s.accumulate (completedFrame s)).covered =
    F64.add s.covered (sweep (degrees s.startRaw) (degrees s.endRaw)) := by
  simp only [State.accumulate, State.setPending_covered, completedFrame]

/-- A completed frame leaves COVERED alone, restarts it, or adds the frame's sweep to it (R211). -/
theorem isFinite_covered_frameComplete (h : F64.isFinite s.covered = true) :
    F64.isFinite (frameComplete s).covered = true := by
  rcases dispatchFrame_cases (completedFrame s) s with ⟨-, he⟩ | ⟨-, -, he⟩ | ⟨-, p, ps, -, he⟩ | ⟨-, he⟩ <;>
    rw [frameComplete, he]
  case inr.inr.inr =>
    rcases rotFrame_cases (completedFrame s) s with ⟨-, he⟩ | ⟨-, -, he⟩ | ⟨-, -, he⟩ <;> rw [he]
    · exact h
    · exact isFinite_covered0
    · rw [State.setPhase_covered, covered_accumulate_completedFrame]
      exact isFinite_add_within h (within_sweep s.startRaw s.endRaw)
  all_goals exact h

end Sys2Proof.Machine

namespace Sys2Proof

open Machine

/-- Settles O57: only CSUM in ROTATIONS mode adds to COVERED, and it adds a sweep. -/
theorem coveredStaysFinite : Obligations.CoveredStaysFinite := by
  intro s s' h hstep
  obtain ⟨hs, ts, heff⟩ := step_effect hstep
  cases heff with
  | eventless => exact h
  | refuse => exact h
  | pull => exact isFinite_covered_pull h
  | take => exact h
  | reset => exact isFinite_covered0
  | frameByte b i s' hr hd hp he =>
    obtain ⟨p, r, -, rfl⟩ := exec_frameByte hd hp he
    exact h
  | csum b => exact isFinite_covered_frameComplete h
  | fail => exact isFinite_covered_raiseTransportError h

end Sys2Proof
end

section
/-! PROOFS. Registers the frame in progress has not written are unobservable (10_state.md R48). The operations outside the
frame commute with a change of the frame's registers; each byte of the frame keeps the agreement on what has been
written, and CSUM reads only that. -/

namespace Sys2Proof.Machine

variable {s s' t t' : State} {b : Byte} {i : Instr} {r : FrameRegs}

/-! ### A byte of the frame keeps the agreement -/

/-- `R[15:8] <- b` shows of `R` its low byte, and nothing else. -/
@[simp] theorem setHigh_eq_setHigh_iff (v w : U16) (b : Byte) : setHigh v b = setHigh w b ↔ lowByte v = lowByte w := by
  refine ⟨fun h => BitVec.eq_of_toNat_eq ?_, fun h => setHigh_congr h b⟩
  have := congrArg BitVec.toNat h
  rw [setHigh_toNat, setHigh_toNat] at this
  rw [lowByte_toNat, lowByte_toNat]
  omega

/-- A write of PT_DIST[IDX] keeps the points below IDX. -/
theorem points_below_setCurDist (hidx : s.idx = t.idx)
    (hbelow : ∀ k < s.idx, s.ptDist.get k = t.ptDist.get k ∧ s.ptInt.get k = t.ptInt.get k) (d d' : U16) :
    ∀ k < s.idx, (s.setCurDist d).ptDist.get k = (t.setCurDist d').ptDist.get k ∧ s.ptInt.get k = t.ptInt.get k := by
  intro k hk
  rw [setCurDist_get, setCurDist_get, if_neg hk.ne, if_neg (hidx ▸ hk.ne)]
  exact hbelow k hk

/-- A write of PT_INT[IDX] completes point IDX: where two states agree below IDX and on PT_DIST[IDX], they then agree up
to IDX. -/
theorem points_agree_setCurInt (hidx : s.idx = t.idx) (hdist : s.curDist = t.curDist)
    (hbelow : ∀ k < s.idx, s.ptDist.get k = t.ptDist.get k ∧ s.ptInt.get k = t.ptInt.get k) (b : Byte) {k : Fin 31}
    (hk : k ≤ s.idx) :
    s.ptDist.get k = t.ptDist.get k ∧ (s.setCurInt b).ptInt.get k = (t.setCurInt b).ptInt.get k := by
  rw [setCurInt_get, setCurInt_get, ← hidx]
  rcases hk.lt_or_eq with hlt | rfl
  · rw [if_neg hlt.ne, if_neg hlt.ne]
    exact hbelow k hlt
  · rw [if_pos rfl, if_pos rfl]
    rw [State.curDist, State.curDist, ← hidx] at hdist
    exact ⟨hdist, rfl⟩

@[simp] theorem curDist_setPhase (p : Phase) (s : State) : (s.setPhase p).curDist = s.curDist := rfl

theorem agree_exec_staH (hinv : s.Inv) (h : s.AgreeOnWritten t) (hph : s.phase = .staH) (he : exec (.staH b) s = .next s')
    (he' : exec (.staH b) t = .next t') : t'.phase = s'.phase ∧ s'.AgreeOnWritten t' := by
  obtain ⟨hmsg, hlen⟩ := h.info (by simp [hph])
  have hspd := h.speed (by simp [hph])
  have hstaL := h.startLow hph
  have hidx := h.idx (by simp [hph])
  cases he; cases he'
  by_cases hpos : hasPoints s = true
  · have hpos' : hasPoints t = true := by rwa [hasPoints_iff, ← hlen, ← hasPoints_iff]
    rw [if_pos hpos, if_pos hpos']
    refine ⟨rfl, ?_⟩
    have hnone (k : Fin 31) : ¬k < s.idx := hinv.idxStart (by simp [hph]) ▸ Fin.not_lt_zero k
    constructor
    case pointsBelow => exact fun _ k hk => absurd hk (hnone k)
    all_goals simp [*]
  · have hpos' : ¬hasPoints t = true := by rwa [hasPoints_iff, ← hlen, ← hasPoints_iff]
    rw [if_neg hpos, if_neg hpos']
    refine ⟨rfl, ?_⟩
    constructor
    case points => exact fun _ k hk => absurd ((hasPoints_iff s).2 (Nat.zero_lt_of_lt hk)) hpos
    all_goals simp [*]

theorem agree_exec_int (h : s.AgreeOnWritten t) (hph : s.phase = .int) (he : exec (.int b) s = .next s')
    (he' : exec (.int b) t = .next t') : t'.phase = s'.phase ∧ s'.AgreeOnWritten t' := by
  obtain ⟨hmsg, hlen⟩ := h.info (by simp [hph])
  have hspd := h.speed (by simp [hph])
  have hsta := h.start (by simp [hph])
  have hidx := h.idx (by simp [hph])
  have hupto (k : Fin 31) :=
    points_agree_setCurInt (k := k) hidx (h.dist hph) (h.pointsBelow (by simp [hph])) b
  cases he; cases he'
  by_cases hmore : morePoints s = true
  · have hmore' : morePoints t = true := by rwa [morePoints_iff, ← hlen, ← hidx, ← morePoints_iff]
    rw [if_pos hmore, if_pos hmore']
    refine ⟨rfl, ?_⟩
    constructor
    case pointsBelow =>
      intro _ k hk
      have hk : k < s.idx + 1 := hk
      rw [Fin.lt_def, idx_succ_val hmore] at hk
      exact hupto k (Nat.le_of_lt_succ hk)
    all_goals simp [*]
  · have hmore' : ¬morePoints t = true := by rwa [morePoints_iff, ← hlen, ← hidx, ← morePoints_iff]
    rw [if_neg hmore, if_neg hmore']
    refine ⟨rfl, ?_⟩
    constructor
    case points =>
      intro _ k hk
      rw [morePoints_iff, not_lt] at hmore
      exact hupto k (Nat.le_of_lt_succ (lt_of_lt_of_le hk hmore))
    all_goals simp [*]

theorem agree_exec_frameByte (hinv : s.Inv) (h : s.AgreeOnWritten t) (hd : decodeByte s.phase b = .ok i)
    (hp : s.phase ≠ .csum) (he : exec i s = .next s') (he' : exec i t = .next t') :
    t'.phase = s'.phase ∧ s'.AgreeOnWritten t' := by
  have hagree := h
  obtain ⟨hinfo, hspdL, hspd, hstaL, hsta, hidx, hbelow, hdistL, hdist, hpoints, hendL, hend, htsL, hts⟩ := h
  cases hph : s.phase <;> rw [hph] at hd <;>
    simp [hph] at hp hinfo hspdL hspd hstaL hsta hidx hbelow hdistL hdist hpoints hendL hend htsL hts
  case hunt =>
    rcases decodeByte_hunt hd with rfl | rfl <;> cases he <;> cases he' <;> refine ⟨rfl, ?_⟩ <;> constructor <;> simp
  case info | spdL | spdH | staL =>
    cases hd; cases he; cases he'
    refine ⟨rfl, ?_⟩
    constructor
    case idx => exact fun _ => hidx
    all_goals simp [*]
  case staH => cases hd; exact agree_exec_staH hinv hagree hph he he'
  case dstL | dstH =>
    cases hd; cases he; cases he'
    refine ⟨rfl, ?_⟩
    constructor
    case pointsBelow => exact fun _ => points_below_setCurDist hidx hbelow _ _
    all_goals simp [*]
  case int => cases hd; exact agree_exec_int hagree hph he he'
  case endL | endH | tsL | tsH =>
    cases hd; cases he; cases he'
    refine ⟨rfl, ?_⟩
    constructor
    case points => exact fun _ => hpoints
    all_goals simp [*]
  case idle => cases hd
  case term => cases hd

/-! ### The other operations commute with a change of the frame's registers -/

theorem waitingPoint_withFrame (s : State) (r : FrameRegs) : waitingPoint (s.withFrame r) = waitingPoint s := rfl

theorem withFrame_pull (s : State) (r : FrameRegs) : (s.withFrame r).pull = s.pull.withFrame r := by
  unfold State.pull
  rw [withFrame_phase, waitingPoint_withFrame]
  split
  · rfl
  · cases waitingPoint s <;> rfl

theorem withFrame_raiseTransportError (s : State) (r : FrameRegs) :
    raiseTransportError (s.withFrame r) = (raiseTransportError s).withFrame r := by
  unfold raiseTransportError
  rw [withFrame_mode]
  cases s.mode <;> rfl

theorem withFrame_rotFrame (f : Frame) (s : State) (r : FrameRegs) :
    rotFrame f (s.withFrame r) = (rotFrame f s).withFrame r := by
  unfold rotFrame
  simp only [apply_ite (State.withFrame r)]
  rfl

theorem withFrame_dispatchFrame (f : Frame) (s : State) (r : FrameRegs) :
    dispatchFrame f (s.withFrame r) = (dispatchFrame f s).withFrame r := by
  unfold dispatchFrame
  rw [withFrame_mode]
  cases s.mode with
  | single | frames => rfl
  | points => cases f.points <;> rfl
  | rotations => exact withFrame_rotFrame f s r

/-! ### Where those operations leave the frame -/

/-- The phases in which no frame is in progress. -/
def OutsideFrame (p : Phase) : Prop := p ∈ [Phase.hunt, .idle, .term]

theorem agreeOnWritten_of_outsideFrame (h : OutsideFrame s.phase) (t : State) : s.AgreeOnWritten t := by
  simp only [OutsideFrame, List.mem_cons, List.not_mem_nil, or_false] at h
  rcases h with h | h | h <;> constructor <;> simp [h]

theorem outsideFrame_of_not_reading {p : Phase} (h : p.reading = false) : OutsideFrame p := by
  cases p <;> simp [Phase.reading, OutsideFrame] at *

theorem outsideFrame_pull (h : s.phase.reading = false) : OutsideFrame s.pull.phase := by
  rcases pull_cases s with ⟨-, he⟩ | ⟨-, p, -, he⟩ | ⟨-, -, he⟩ <;> rw [he]
  · exact outsideFrame_of_not_reading h
  · exact outsideFrame_of_not_reading h
  · simp [OutsideFrame]

theorem outsideFrame_raiseTransportError (s : State) : OutsideFrame (raiseTransportError s).phase := by
  rcases raiseTransportError_cases s with ⟨-, he⟩ | ⟨-, he⟩ <;> rw [he] <;> simp [OutsideFrame]

/-- A completed frame is over, or its points overflow PENDING and the engine stops at CSUM (R243). -/
theorem outsideFrame_dispatchFrame (f : Frame) (s : State) :
    OutsideFrame (dispatchFrame f s).phase ∨ dispatchFrame f s = s.overflow := by
  rcases dispatchFrame_cases f s with ⟨-, he⟩ | ⟨-, -, he⟩ | ⟨-, p, ps, -, he⟩ | ⟨-, he⟩ <;> rw [he]
  case inr.inr.inr =>
    rcases rotFrame_cases f s with ⟨-, he⟩ | ⟨-, -, he⟩ | ⟨-, -, he⟩ <;> rw [he]
    · exact .inr rfl
    · exact .inl (by simp [OutsideFrame, State.emitBatch])
    · exact .inl (by simp [OutsideFrame])
  all_goals exact .inl (by simp [OutsideFrame])

/-! ### CSUM reads what the frame has written -/

theorem framePoints_agree (h : s.AgreeOnWritten t) (hph : s.phase = .csum) : framePoints s = framePoints t := by
  obtain ⟨-, hlen⟩ := h.info (by simp [hph])
  apply List.ext_getElem?
  intro k
  by_cases hk : k < s.len.toNat
  · have hk31 : k < 31 := hk.trans_le (Nat.le_of_lt_succ s.len.isLt)
    obtain ⟨hdist, hint⟩ := h.points (by simp [hph]) ⟨k, hk31⟩ hk
    rw [framePoints_getElem? s ⟨k, hk31⟩ hk, framePoints_getElem? t ⟨k, hk31⟩ (hlen ▸ hk), hdist, hint, hlen,
      h.start (by simp [hph]), h.endFull (by simp [hph])]
  · rw [List.getElem?_eq_none (by simpa using hk), List.getElem?_eq_none (by simpa [← hlen] using hk)]

theorem completedFrame_agree (h : s.AgreeOnWritten t) (hph : s.phase = .csum) (b : Byte) :
    completedFrame (s.setChecksum b) = completedFrame (t.setChecksum b) := by
  obtain ⟨hmsg, hlen⟩ := h.info (by simp [hph])
  have hpoints : framePoints (s.setChecksum b) = framePoints (t.setChecksum b) := framePoints_agree { h with } hph
  simp only [completedFrame, hpoints]
  simp [hmsg, hlen, h.speed, h.start, h.endFull, h.ts, hph]

/-! ### The steps of two states that differ in unwritten registers -/

theorem sameOutcome_next (h : s'.AgreeOnWritten (s'.withFrame r)) : SameOutcome (.next s') (.next (s'.withFrame r)) :=
  ⟨rfl, h⟩

theorem sameOutcome_next_of_outsideFrame (h : OutsideFrame s'.phase) (r : FrameRegs) :
    SameOutcome (.next s') (.next (s'.withFrame r)) :=
  sameOutcome_next (agreeOnWritten_of_outsideFrame h _)

theorem exec_pull_of_allowed (h : pullAllowed s = true) : exec .pull s = .next s.pull := by
  simp [exec, execPull, h]

theorem exec_pull_of_not_allowed (h : pullAllowed s = false) : exec .pull s = .next s.refuse := by
  simp [exec, execPull, h]

theorem exec_take_of_allowed {it : Item} (ho : s.out = some it) (hr : s.running = true) :
    exec .take s = .next (s.handOver it) := by
  simp [exec, execTake, ho, hr]

theorem exec_take_of_not_allowed (h : s.out = none ∨ s.running = false) : exec .take s = .next s.refuse := by
  cases ho : s.out with
  | none => simp [exec, execTake, ho]
  | some it => simp_all [exec, execTake]

theorem sameOutcome_event {w : HostWord} (hinv : s.Inv) (h : s.AgreeOnWritten (s.withFrame r))
    (hd : decodeEvent w = .ok i) : SameOutcome (exec i s) (exec i (s.withFrame r)) := by
  have hrefuse : SameOutcome (.next s.refuse) (.next (s.withFrame r).refuse) := sameOutcome_next (s' := s.refuse) { h with }
  rcases decodeEvent_ok hd with ⟨-, rfl⟩ | ⟨-, rfl⟩ | ⟨-, rfl⟩
  · cases hp : pullAllowed s
    · rw [exec_pull_of_not_allowed hp, exec_pull_of_not_allowed (s := s.withFrame r) hp]
      exact hrefuse
    · rw [exec_pull_of_allowed hp, exec_pull_of_allowed (s := s.withFrame r) hp, withFrame_pull]
      obtain ⟨hreq, -⟩ := (pullAllowed_iff s).1 hp
      exact sameOutcome_next_of_outsideFrame (outsideFrame_pull (hinv.reqReading ▸ hreq)) r
  · by_cases ht : s.out = none ∨ s.running = false
    · rw [exec_take_of_not_allowed ht, exec_take_of_not_allowed (s := s.withFrame r) ht]
      exact hrefuse
    · rw [not_or, Bool.not_eq_false] at ht
      obtain ⟨it, ho⟩ := Option.ne_none_iff_exists'.1 ht.1
      rw [exec_take_of_allowed ho ht.2, exec_take_of_allowed (s := s.withFrame r) ho ht.2]
      exact sameOutcome_next (s' := s.handOver it) { h with }
  · simp only [exec, execReset]
    cases resetAllowed (Mode.ofCode w.cfgMode) w.cfgRotTarget
    · exact hrefuse
    · exact sameOutcome_next_of_outsideFrame (s' := s.applyReset _ _) (by simp [OutsideFrame]) State.reset.frameRegs

theorem sameOutcome_token {tok : Token} (hinv : s.Inv) (h : s.AgreeOnWritten (s.withFrame r))
    (hd : decodeToken (decodeWord s.phase tok) = .ok i) : SameOutcome (exec i s) (exec i (s.withFrame r)) := by
  rcases decodeToken_ok hd with ⟨-, -, rfl⟩ | ⟨-, hb⟩
  · simp only [exec, execFail, withFrame_raiseTransportError]
    exact sameOutcome_next_of_outsideFrame (outsideFrame_raiseTransportError s) r
  by_cases hph : s.phase = .csum
  · rw [hph] at hb
    cases hb
    simp only [exec, execCsum, frameComplete, ← completedFrame_agree h hph]
    have hset : (s.withFrame r).setChecksum tok.byte =
      (s.setChecksum tok.byte).withFrame { r with checksum := tok.byte } := rfl
    rw [hset, withFrame_dispatchFrame]
    rcases outsideFrame_dispatchFrame (completedFrame (s.setChecksum tok.byte)) (s.setChecksum tok.byte) with ho | he
    · exact sameOutcome_next_of_outsideFrame ho _
    · rw [he]
      exact sameOutcome_next { h with }
  · obtain ⟨s', he⟩ := exec_next i s
    obtain ⟨t', he'⟩ := exec_next i (s.withFrame r)
    obtain ⟨hphase, hagree⟩ := agree_exec_frameByte hinv h hb hph he he'
    obtain ⟨p, q, -, rfl⟩ := exec_frameByte hb hph he
    obtain ⟨p', q', -, rfl⟩ := exec_frameByte (s := s.withFrame r) hb hph he'
    obtain rfl : p' = p := hphase
    rw [he, he']
    exact ⟨rfl, hagree⟩

end Sys2Proof.Machine

namespace Sys2Proof

open Machine

/-- Settles O43: the two states take the same event or token, or stop alike, and each operation keeps the relation. -/
theorem unwrittenRegistersUnobservable : Obligations.UnwrittenRegistersUnobservable := by
  rintro s t hinv ⟨ht, h⟩
  obtain ⟨r, rfl⟩ : ∃ r, t = s.withFrame r := ⟨t.frameRegs, ht⟩
  rcases step_enabled_cases s with ⟨i, s1, hev⟩ | ⟨i, s1, htok⟩ | ⟨hidle, w, hs, hh, hw⟩ | ⟨hidle, hh⟩
  · rw [step_of_takesEvent hev]
    obtain ⟨w, hs, hh, hd, rfl⟩ := hev
    rw [step_of_takesEvent (s := s.withFrame r) ⟨w, hs, hh, hd, rfl⟩]
    exact sameOutcome_event (hinv.fetched hs s.chan) (s := s.setHost hs) { h with } hd
  · rw [step_of_takesToken htok]
    obtain ⟨hs, tok, ts, hh, hr, hc, hd, rfl⟩ := htok
    rw [step_of_takesToken (s := s.withFrame r) ⟨hs, tok, ts, hh, hr, hc, hd, rfl⟩]
    exact sameOutcome_token (hinv.fetched hs ts) (s := (s.setHost hs).setChan ts) { h with } hd
  · rw [step_of_eventless hidle hh hw, step_of_eventless (s := s.withFrame r) hidle hh hw]
    exact sameOutcome_next (s' := s.setHost hs) { h with }
  · rw [step_of_host_nil hidle hh, step_of_host_nil (s := s.withFrame r) hidle hh]
    rfl

end Sys2Proof
end

section
/-! PROOFS. What a step does to the input channel, and what it may put in OUT (20_memory.md R62, R67, R72). -/

namespace Sys2Proof.Machine

variable {s s' s1 : State} {b : Byte} {i : Instr}

/-! ### No operation writes the channel -/

@[simp] theorem chan_pull (s : State) : s.pull.chan = s.chan := by
  rcases pull_cases s with ⟨-, he⟩ | ⟨-, p, -, he⟩ | ⟨-, -, he⟩ <;> rw [he] <;> rfl

@[simp] theorem chan_raiseTransportError (s : State) : (raiseTransportError s).chan = s.chan := by
  rcases raiseTransportError_cases s with ⟨-, he⟩ | ⟨-, he⟩ <;> rw [he] <;> rfl

@[simp] theorem chan_rotFrame (f : Frame) (s : State) : (rotFrame f s).chan = s.chan := by
  rcases rotFrame_cases f s with ⟨-, he⟩ | ⟨-, -, he⟩ | ⟨-, -, he⟩ <;> rw [he] <;> rfl

@[simp] theorem chan_dispatchFrame (f : Frame) (s : State) : (dispatchFrame f s).chan = s.chan := by
  rcases dispatchFrame_cases f s with ⟨-, he⟩ | ⟨-, -, he⟩ | ⟨-, p, ps, -, he⟩ | ⟨-, he⟩ <;> rw [he]
  case inr.inr.inr => exact chan_rotFrame f s
  all_goals rfl

theorem StepEffect.chan (h : StepEffect s s1 s') : s'.chan = s1.chan := by
  cases h with
  | eventless => rfl
  | refuse => rfl
  | pull => exact chan_pull s1
  | take => rfl
  | reset => rfl
  | frameByte b i s' hr hd hp he =>
    obtain ⟨p, r, -, rfl⟩ := exec_frameByte hd hp he
    rfl
  | csum b => exact chan_dispatchFrame _ _
  | fail => exact chan_raiseTransportError s1

theorem chan_exec_of_takesEvent (h : TakesEvent s i s1) (he : exec i s1 = .next s') : s'.chan = s.chan := by
  obtain ⟨w, hs, hh, hd, rfl⟩ := h
  exact (stepEffect_of_event hh hd he).chan

theorem chan_exec_of_takesToken (h : TakesToken s i s1) (he : exec i s1 = .next s') : ∃ t, s.chan = t :: s'.chan := by
  obtain ⟨hs, t, rest, -, hr, hc, hd, rfl⟩ := h
  have hrest : s'.chan = rest := (stepEffect_of_token (s := s) (s1 := (s.setHost hs).setChan rest) hr hd he).chan
  exact ⟨t, hrest ▸ hc⟩

/-- A step keeps the channel, or in_ready holds and it removes the oldest token. -/
theorem step_chan_cases (h : step s = .next s') :
    s'.chan = s.chan ∨ (s.inReady = true ∧ ∃ t, s.chan = t :: s'.chan) := by
  rcases step_next_cases h with ⟨i, s1, hev, he⟩ | ⟨i, s1, htok, he⟩ | ⟨w, hs, -, -, -, rfl⟩
  · exact .inl (chan_exec_of_takesEvent hev he)
  · refine .inr ⟨?_, chan_exec_of_takesToken htok he⟩
    obtain ⟨hs, t, rest, -, hr, -⟩ := htok
    exact hr
  · exact .inl rfl

/-! ### What fills an empty OUT -/

theorem out_raiseTransportError (s : State) :
    (raiseTransportError s).out = some .err ∨ (raiseTransportError s).out = some .seqEnd := by
  rcases raiseTransportError_cases s with ⟨-, he⟩ | ⟨-, he⟩ <;> rw [he]
  · exact .inl rfl
  · exact .inr rfl

/-- Of the host events only a PULL fills OUT, and then it is answered from TERM or PBUF (R190). -/
theorem out_exec_event {w : HostWord} {it : Item} (hout : s.out = none) (hd : decodeEvent w = .ok i)
    (he : exec i s = .next s') (hit : s'.out = some it) :
    s.req = false ∧ (it = .seqEnd ∨ (s.phase ≠ .term ∧ ∃ p, it = .point p ∧ waitingPoint s = some p)) := by
  rcases decodeEvent_ok hd with ⟨-, rfl⟩ | ⟨-, rfl⟩ | ⟨-, rfl⟩
  · cases hp : pullAllowed s with
    | false =>
      rw [exec_pull_of_not_allowed hp] at he
      cases he
      simp [hout] at hit
    | true =>
      rw [exec_pull_of_allowed hp] at he
      cases he
      refine ⟨((pullAllowed_iff s).1 hp).1, ?_⟩
      rcases pull_cases s with ⟨-, he⟩ | ⟨hterm, p, hw, he⟩ | ⟨-, -, he⟩ <;> rw [he] at hit
      · exact .inl (Option.some.inj hit).symm
      · exact .inr ⟨hterm, p, (Option.some.inj hit).symm, hw⟩
      · simp [hout] at hit
  · rw [exec_take_of_not_allowed (.inl hout)] at he
    cases he
    simp [hout] at hit
  · cases he
    split at hit <;> simp [hout] at hit

/-- Of the token operations only FAIL and CSUM fill OUT (R67, R154). -/
theorem out_exec_token {t : Token} {it : Item} (hout : s.out = none) (hd : decodeToken (decodeWord s.phase t) = .ok i)
    (he : exec i s = .next s') (hit : s'.out = some it) :
    it = .err ∨ it = .seqEnd ∨ (s.phase = .csum ∧ t.fail = false) := by
  rcases decodeToken_ok hd with ⟨-, -, rfl⟩ | ⟨hbyte, hb⟩
  · cases he
    rcases out_raiseTransportError s with ho | ho <;> cases ho.symm.trans hit <;> simp
  · by_cases hp : s.phase = .csum
    · exact .inr (.inr ⟨hp, hbyte⟩)
    · obtain ⟨p, r, -, rfl⟩ := exec_frameByte hb hp he
      exact absurd (hout.symm.trans hit) nofun

theorem State.Inv.phase_idle (h : s.Inv) (hreq : s.req = false) (hterm : s.phase ≠ .term) : s.phase = .idle := by
  have hreading := h.reqReading.symm.trans hreq
  cases hp : s.phase <;> simp [hp, Phase.reading] at hreading hterm ⊢

/-! ### A placed decode word -/

/-- Only in a reading phase does a decode word decode (R92). -/
theorem reading_of_decodeToken {p : Phase} {t : Token} (h : decodeToken (decodeWord p t) = .ok i) : p.reading = true := by
  rcases decodeToken_ok h with ⟨-, hp, -⟩ | ⟨-, hb⟩
  · exact hp
  · cases p
    case idle | term => cases hb
    all_goals rfl

/-- The decoder reads PHASE, FAIL and BYTE of a decode word and nothing else (R90). -/
theorem decodeToken_fields (dw : BitVec 13) :
    decodeToken (decodeWord (dwPhase dw) { fail := dwFail dw, byte := dwByte dw }) = decodeToken dw :=
  decodeToken_decodeWord _ _

theorem wordsOfTable_token (dw : BitVec 13) : wordsOfTable 16 dw.toNat = some (.token dw) := by
  simp [wordsOfTable, dw.isLt]

end Sys2Proof.Machine

namespace Sys2Proof

open Machine

/-- Settles O35: no operation writes the channel, so what a step does to it is the fetch of the oldest token. -/
theorem tokensConsumedOnceInOrder : Obligations.TokensConsumedOnceInOrder := by
  refine ⟨fun s s' hstep => ?_, fun s t rest hreq hphase hfault hrefused hchan hhost => ?_⟩
  · simpa only [State.inReady_iff, and_assoc] using step_chan_cases hstep
  · have hr : s.inReady = true := (State.inReady_iff s).2 ⟨hreq, hphase, hfault, hrefused⟩
    obtain ⟨i, hd⟩ := decodeToken_reading hphase t
    obtain ⟨s1, htok⟩ : ∃ s1, TakesToken s i s1 := by
      cases hh : s.host with
      | nil => exact ⟨_, [], t, rest, .inl ⟨hh, rfl⟩, hr, hchan, hd, rfl⟩
      | cons w hs => exact ⟨_, hs, t, rest, .inr ⟨w, hh, decodeEvent_of_ev_zero (hhost w hs hh)⟩, hr, hchan, hd, rfl⟩
    obtain ⟨s', he⟩ := exec_next i s1
    obtain ⟨t', hc⟩ := chan_exec_of_takesToken htok he
    rw [hchan] at hc
    exact ⟨s', (step_of_takesToken htok).trans he, (List.cons.inj hc).2.symm⟩

/-- Settles O36: the invariant has REQ = 0 there, so in_ready fails. -/
theorem noReadWithoutOutstandingPull : Obligations.NoReadWithoutOutstandingPull := by
  intro s s' hinv hwait hstep
  refine (step_chan_cases hstep).resolve_right fun ⟨hr, _⟩ => ?_
  obtain ⟨hreq, hreading, -, -⟩ := (State.inReady_iff s).1 hr
  rcases hwait with hout | hp | hp
  · exact absurd (hinv.outReq hout) (by simp [hreq])
  · simp [hp, Phase.reading] at hreading
  · simp [hp, Phase.reading] at hreading

/-- Settles O39: an event fills OUT from TERM or PBUF, a token by FAIL or CSUM. -/
theorem deliveredOnlyAfterChecksum : Obligations.DeliveredOnlyAfterChecksum := by
  intro s s' it hinv hout hstep hit
  rcases step_next_cases hstep with ⟨i, s1, hev, he⟩ | ⟨i, s1, htok, he⟩ | ⟨w, hs, -, -, -, rfl⟩
  · have hchan := chan_exec_of_takesEvent hev he
    obtain ⟨w, hs, -, hd, rfl⟩ := hev
    obtain ⟨hreq, hend | ⟨hterm, p, hpoint, hw⟩⟩ := out_exec_event (s := s.setHost hs) hout hd he hit
    · exact .inr (.inl hend)
    · obtain ⟨hmode, hget⟩ := (waitingPoint_iff _ p).1 hw
      exact .inr (.inr (.inr ⟨p, hpoint, hmode, hinv.phase_idle hreq hterm, hget, hchan⟩))
  · obtain ⟨t', hchan⟩ := chan_exec_of_takesToken htok he
    obtain ⟨hs, t, rest, -, -, hc, hd, rfl⟩ := htok
    obtain rfl : t = t' := (List.cons.inj (hc.symm.trans hchan)).1
    rcases out_exec_token (s := (s.setHost hs).setChan rest) hout hd he hit with herr | hend | ⟨hp, hbyte⟩
    · exact .inl herr
    · exact .inr (.inl hend)
    · exact .inr (.inr (.inl ⟨hp, t, hchan, hbyte⟩))
  · exact absurd (hout.symm.trans hit) nofun

/-- Settles O11: the placed state has in_ready and an eventless entry, so the step takes the placed token. -/
theorem fetchWordRunsToken : Obligations.FetchWordRunsToken := by
  intro s dw i hd
  have hd' := (decodeToken_fields dw).trans hd
  constructor
  · simp [decodeTableWord, wordsOfTable_token, decode, hd]
  · rw [State.withFetchWord, wordsOfTable_token]
    have hr : (s.offerToken dw).inReady = true :=
      (State.inReady_iff _).2 ⟨rfl, reading_of_decodeToken hd', rfl, rfl⟩
    exact step_of_takesToken ⟨s.host, _, s.chan, .inr ⟨_, rfl, decodeEvent_of_ev_zero rfl⟩, hr, rfl, hd', rfl⟩

end Sys2Proof
end

section
/-! PROOFS. Runs of the engine over bytes (20_memory.md R62; 70_reset_and_hazards.md R274): which state a list of bytes
before CSUM leads to, apart from the channel and the consumer's signals, and that a run takes the engine there. -/

namespace Sys2Proof.Machine

variable {s s1 s' : State} {b : Byte} {i j : Instr} {bs bs' : List Byte} {hs : List HostWord} {rest : List Token} {m n : ℕ}

/-! ### Runs -/

theorem run_succ (h : step s = .next s1) : Host.Core.run core (n + 1) s = Host.Core.run core n s1 := by
  have h : core.step s = .next s1 := h
  simp only [Host.Core.run, h]

theorem exists_step_of_run_succ (h : Host.Core.run core (n + 1) s = .next s') :
    ∃ s1, step s = .next s1 ∧ Host.Core.run core n s1 = .next s' := by
  simp only [Host.Core.run] at h
  split at h
  case h_1 s1 hstep => exact ⟨s1, hstep, h⟩
  all_goals cases h

theorem run_add (h : Host.Core.run core m s = .next s1) : Host.Core.run core (m + n) s = Host.Core.run core n s1 := by
  induction m generalizing s with
  | zero => cases h; rw [Nat.zero_add]
  | succ m ih =>
    obtain ⟨s2, hstep, h⟩ := exists_step_of_run_succ h
    rw [Nat.add_right_comm, run_succ hstep]
    exact ih h

/-- The consumer drives no event in the next `n` steps. -/
def Quiet (n : ℕ) (hs : List HostWord) : Prop := ∀ w ∈ hs.take n, decodeEvent w = .error .noEvent

theorem quiet_nil (n : ℕ) : Quiet n [] := by simp [Quiet]

theorem Quiet.tail (h : Quiet (n + 1) hs) : Quiet n hs.tail := by
  cases hs with
  | nil => exact quiet_nil n
  | cons w hs => exact fun w' hw => h w' (List.mem_cons_of_mem w hw)

theorem quiet_add_iff : Quiet (m + n) hs ↔ Quiet m hs ∧ Quiet n (hs.drop m) := by
  simp only [Quiet, List.take_add, List.forall_mem_append]

theorem quiet_replicate_append {w : HostWord} (hw : decodeEvent w = .error .noEvent) (n : ℕ) (hs : List HostWord) :
    Quiet n (List.replicate n w ++ hs) := by
  intro w' hmem
  rw [List.take_left' List.length_replicate] at hmem
  rwa [List.eq_of_mem_replicate hmem]

/-- A quiet consumer leaves the step to the engine. -/
theorem step_of_quiet {t : Token} (hr : s.inReady = true) (hd : decodeToken (decodeWord s.phase t) = .ok i)
    (hq : Quiet (n + 1) hs) :
    step ((s.setHost hs).setChan (t :: rest)) = exec i ((s.setHost hs.tail).setChan rest) := by
  refine step_of_takesToken ⟨hs.tail, t, rest, ?_, hr, rfl, hd, rfl⟩
  cases hs with
  | nil => exact .inl ⟨rfl, rfl⟩
  | cons w hs => exact .inr ⟨w, rfl, hq w (by simp)⟩

/-! ### Bytes before CSUM -/

/-- The bytes, none of them taken in CSUM, bring the engine from one state to the other, apart from the channel and the
consumer's signals. -/
inductive ReadsBytes : State → List Byte → State → Prop
  | nil (s : State) : ReadsBytes s [] s
  | cons {s s1 s' : State} {b : Byte} {i : Instr} {bs : List Byte} : decodeByte s.phase b = .ok i → s.phase ≠ .csum →
      exec i s = .next s1 → ReadsBytes s1 bs s' → ReadsBytes s (b :: bs) s'

theorem ReadsBytes.append (h : ReadsBytes s bs s1) (h' : ReadsBytes s1 bs' s') : ReadsBytes s (bs ++ bs') s' := by
  induction h with
  | nil => exact h'
  | cons hd hp he _ ih => exact .cons hd hp he (ih h')

theorem ReadsBytes.take (h : ReadsBytes s bs s') (n : ℕ) : ∃ s1, ReadsBytes s (bs.take n) s1 := by
  induction h generalizing n with
  | nil s => exact ⟨s, by simpa using .nil s⟩
  | @cons s _ _ _ _ _ hd hp he _ ih =>
    cases n with
    | zero => exact ⟨s, .nil s⟩
    | succ n =>
      obtain ⟨s1, h1⟩ := ih n
      exact ⟨s1, .cons hd hp he h1⟩

/-- Bytes before CSUM keep the engine in a reading phase and the rest of the state but the frame's registers. -/
theorem ReadsBytes.withFrame (h : ReadsBytes s bs s') (hp : s.phase.reading = true) :
    ∃ p r, p.reading = true ∧ s' = (s.setPhase p).withFrame r := by
  induction h with
  | nil s => exact ⟨s.phase, s.frameRegs, hp, rfl⟩
  | cons hd hcsum he _ ih =>
    obtain ⟨p, r, hp1, rfl⟩ := exec_frameByte hd hcsum he
    exact ih hp1

theorem inReady_withFrame_setPhase {p : Phase} (hr : s.inReady = true) (hp : p.reading = true) (r : FrameRegs) :
    ((s.setPhase p).withFrame r).inReady = true := by
  obtain ⟨hreq, -, hfault, hrefused⟩ := (State.inReady_iff s).1 hr
  exact (State.inReady_iff _).2 ⟨hreq, hp, hfault, hrefused⟩

theorem ReadsBytes.inReady (h : ReadsBytes s bs s') (hr : s.inReady = true) : s'.inReady = true := by
  obtain ⟨p, r, hp, rfl⟩ := h.withFrame ((State.inReady_iff s).1 hr).2.1
  exact inReady_withFrame_setPhase hr hp r

/-- A byte before CSUM reads neither the channel nor the consumer's signals. -/
theorem exec_frameByte_fetched (hd : decodeByte s.phase b = .ok i) (hp : s.phase ≠ .csum) (he : exec i s = .next s')
    (hs : List HostWord) (ts : List Token) :
    exec i ((s.setHost hs).setChan ts) = .next ((s'.setHost hs).setChan ts) := by
  cases hph : s.phase <;> rw [hph] at hd
  case csum => exact absurd hph hp
  case hunt => rcases decodeByte_hunt hd with rfl | rfl <;> cases he <;> rfl
  case int =>
    cases hd; cases he
    have hmore : morePoints ((s.setHost hs).setChan ts) = morePoints s := rfl
    simp only [exec, execInt, hmore]
    cases morePoints s <;> rfl
  all_goals cases hd <;> cases he <;> rfl

/-- The engine's run over bytes before CSUM, one step a byte. -/
theorem run_of_readsBytes (h : ReadsBytes s bs s') (hr : s.inReady = true) (hq : Quiet bs.length hs) :
    Host.Core.run core bs.length ((s.setHost hs).setChan (bs.map byteToken ++ rest)) =
      .next ((s'.setHost (hs.drop bs.length)).setChan rest) := by
  induction h generalizing hs with
  | nil s => rfl
  | @cons s s1 s' b i bs hd hp he h ih =>
    have hstep := (step_of_quiet (rest := bs.map byteToken ++ rest) hr ((decodeToken_byte s.phase b).trans hd) hq).trans
      (exec_frameByte_fetched hd hp he hs.tail _)
    rw [List.length_cons, List.map_cons, List.cons_append]
    refine (run_succ hstep).trans ?_
    rw [ih ((ReadsBytes.cons hd hp he (.nil s1)).inReady hr) hq.tail, List.drop_tail]

end Sys2Proof.Machine
end

section
/-! PROOFS. The bytes of a frame, field by field (30_encoding.md R80 to R86; 42_payload.md R140 to R142): from HUNT its
bytes before the checksum lead to CSUM with the frame's values in the registers, and CSUM then dispatches the Frame item
they stand for (44_frame_complete.md R170 to R174). -/

namespace Sys2Proof.Machine

variable {s s1 s' : State} {b b' : Byte} {i j : Instr}

/-! ### The two-byte fields -/

theorem readsBytes_pair (hd : decodeByte s.phase b = .ok i) (hp : s.phase ≠ .csum) (he : exec i s = .next s1)
    (hd' : decodeByte s1.phase b' = .ok j) (hp' : s1.phase ≠ .csum) (he' : exec j s1 = .next s') :
    ReadsBytes s [b, b'] s' :=
  .cons hd hp he (.cons hd' hp' he' (.nil s'))

theorem readsBytes_info (hp : s.phase = .hunt) (t : BitVec 3) (l : BitVec 5) :
    ReadsBytes s [Config.syncByte, infoByte t l] (((s.setIdx 0).setInfo t l).setPhase .spdL) := by
  have htype : infoType (infoByte t l) = t := BitVec.extractLsb'_append_eq_left
  have hlen : infoLen (infoByte t l) = l := BitVec.extractLsb'_append_eq_right
  refine readsBytes_pair (i := .huntSync) (by simp [hp, decodeByte]) (by simp [hp]) rfl rfl (by simp) ?_
  simp only [exec, execInfo, htype, hlen]
  rfl

theorem readsBytes_speed (hp : s.phase = .spdL) (v : U16) :
    ReadsBytes s (u16Bytes v) ((s.setSpeed v).setPhase .staL) := by
  refine readsBytes_pair (by rw [hp]; rfl) (by simp [hp]) rfl rfl (by simp) ?_
  simp only [exec, execSpdH, State.setPhase_speed, State.setSpeed_speed, setHigh_setLow]
  rfl

theorem readsBytes_start (hp : s.phase = .staL) (v : U16) :
    ReadsBytes s (u16Bytes v) ((s.setStart v).setPhase (if hasPoints s then .dstL else .endL)) := by
  refine readsBytes_pair (by rw [hp]; rfl) (by simp [hp]) rfl rfl (by simp) ?_
  simp only [exec, execStaH, State.setPhase_startRaw, State.setStart_startRaw, setHigh_setLow]
  rfl

theorem readsBytes_end (hp : s.phase = .endL) (v : U16) : ReadsBytes s (u16Bytes v) ((s.setEnd v).setPhase .tsL) := by
  refine readsBytes_pair (by rw [hp]; rfl) (by simp [hp]) rfl rfl (by simp) ?_
  simp only [exec, execEndH, State.setPhase_endRaw, State.setEnd_endRaw, setHigh_setLow]
  rfl

theorem readsBytes_timestamp (hp : s.phase = .tsL) (v : U16) :
    ReadsBytes s (u16Bytes v) ((s.setTimestamp v).setPhase .csum) := by
  refine readsBytes_pair (by rw [hp]; rfl) (by simp [hp]) rfl rfl (by simp) ?_
  simp only [exec, execTsH, State.setPhase_timestamp, State.setTimestamp_timestamp, setHigh_setLow]
  rfl

theorem setCurDist_setPhase_setCurDist (d d' : U16) (p : Phase) (s : State) :
    ((s.setCurDist d).setPhase p).setCurDist d' = (s.setCurDist d').setPhase p := by
  simp [State.setCurDist, State.setPhase]

theorem readsBytes_distance (hp : s.phase = .dstL) (v : U16) :
    ReadsBytes s (u16Bytes v) ((s.setCurDist v).setPhase .int) := by
  refine readsBytes_pair (by rw [hp]; rfl) (by simp [hp]) rfl rfl (by simp) ?_
  simp only [exec, execDstH, curDist_setPhase, curDist_setCurDist, setHigh_setLow, setCurDist_setPhase_setCurDist]
  rfl

/-! ### The payload -/

/-- PT_DIST[IDX] and PT_INT[IDX] take a point's distance and intensity. -/
def State.storePoint (d : U16 × Byte) (s : State) : State := (s.setCurDist d.1).setCurInt d.2

/-- The point registers hold the distances and intensities of the list, from index 0. -/
def State.HoldsPoints (ds : List (U16 × Byte)) (s : State) : Prop :=
  ∀ (k : Fin 31) (d : U16 × Byte), ds[k.val]? = some d → s.ptDist.get k = d.1 ∧ s.ptInt.get k = d.2

theorem holdsPoints_nil (s : State) : s.HoldsPoints [] := by simp [State.HoldsPoints]

theorem State.HoldsPoints.storePoint {ds : List (U16 × Byte)} (h : s.HoldsPoints ds) (hidx : s.idx.val = ds.length)
    (d : U16 × Byte) : (s.storePoint d).HoldsPoints (ds ++ [d]) := by
  intro k d' hk
  rw [State.storePoint, State.setCurInt_ptDist, setCurDist_get, setCurInt_get, State.setCurDist_idx,
    State.setCurDist_ptInt]
  by_cases hlast : k = s.idx
  · rw [hlast, hidx, List.getElem?_concat_length] at hk
    simp [hlast, Option.some.inj hk]
  · have hne : k.val ≠ ds.length := fun hk' => hlast (Fin.ext (hk'.trans hidx.symm))
    have hlt : k.val < ds.length := by
      have := (List.getElem?_eq_some_iff.1 hk).1
      rw [List.length_append, List.length_singleton] at this
      omega
    rw [List.getElem?_append_left hlt] at hk
    simpa [hlast] using h k d' hk

/-- The three bytes of a point; a further point follows exactly while IDX + 1 is below LEN (R142). -/
theorem readsBytes_point (hp : s.phase = .dstL) (d : U16 × Byte) :
    ReadsBytes s (u16Bytes d.1 ++ [d.2])
      (if morePoints s then ((s.storePoint d).setIdx (s.idx + 1)).setPhase .dstL else (s.storePoint d).setPhase .endL) := by
  refine (readsBytes_distance hp d.1).append (.cons rfl (by simp) ?_ (.nil _))
  have hmore : morePoints ((s.setCurDist d.1).setPhase .int) = morePoints s := rfl
  simp only [exec, execInt, hmore]
  cases morePoints s <;> rfl

/-- The payload writes PHASE, IDX and the point registers and nothing else. -/
theorem readsBytes_points (todo done : List (U16 × Byte)) (hne : todo ≠ []) (hp : s.phase = .dstL)
    (hidx : s.idx.val = done.length) (hlen : s.len.toNat = done.length + todo.length) (hdone : s.HoldsPoints done) :
    ∃ s', ReadsBytes s (pointBytes todo) s' ∧ s'.HoldsPoints (done ++ todo) ∧
      s' = { s with phase := .endL, idx := s'.idx, ptDist := s'.ptDist, ptInt := s'.ptInt } := by
  induction todo generalizing s done with
  | nil => exact absurd rfl hne
  | cons d todo ih =>
    have hread := readsBytes_point hp d
    have hstored := hdone.storePoint hidx d
    rw [List.length_cons] at hlen
    cases todo with
    | nil =>
      have hlast : ¬morePoints s = true := by rw [morePoints_iff, List.length_nil] at *; omega
      rw [if_neg hlast] at hread
      exact ⟨_, hread, hstored, rfl⟩
    | cons d' todo =>
      have hmore : morePoints s = true := by rw [morePoints_iff, List.length_cons] at *; omega
      rw [if_pos hmore] at hread
      obtain ⟨s', hrest, hheld, hs'⟩ := ih (done ++ [d]) nofun (s := ((s.storePoint d).setIdx (s.idx + 1)).setPhase .dstL)
        rfl (by simp [idx_succ_val hmore, hidx]) (by simpa [State.storePoint, add_assoc, add_comm 1] using hlen) hstored
      exact ⟨s', hread.append hrest, by simpa using hheld, hs'⟩

/-! ### The whole frame -/

/-- The bytes of the frame before its checksum. -/
def WireFrame.body (w : WireFrame) : List Byte :=
  [Config.syncByte, infoByte w.msgType w.len] ++ u16Bytes w.speed ++ u16Bytes w.startRaw ++ pointBytes w.points ++
    u16Bytes w.endRaw ++ u16Bytes w.timestamp

theorem WireFrame.bytes_eq (w : WireFrame) : w.bytes = w.body ++ [w.checksum] := rfl

theorem length_pointBytes (ps : List (U16 × Byte)) : (pointBytes ps).length = 3 * ps.length := by
  simp [pointBytes, u16Bytes, List.length_flatMap, mul_comm]

theorem WireFrame.length_body (w : WireFrame) : w.body.length = 10 + 3 * w.points.length := by
  simp [WireFrame.body, u16Bytes, length_pointBytes]
  omega

theorem WireFrame.len_toNat {w : WireFrame} (h : w.points.length ≤ 31) : w.len.toNat = w.points.length := by
  rw [WireFrame.len, BitVec.toNat_ofNat]
  omega

/-- The engine waits for the checksum byte, with the frame's values in the registers. -/
structure State.HoldsFrame (w : WireFrame) (s : State) : Prop where
  phase : s.phase = .csum
  msgType : s.msgType = w.msgType
  len : s.len = w.len
  speed : s.speed = w.speed
  startRaw : s.startRaw = w.startRaw
  endRaw : s.endRaw = w.endRaw
  timestamp : s.timestamp = w.timestamp
  points : s.HoldsPoints w.points

theorem readsBytes_body {w : WireFrame} (hw : w.points.length ≤ 31) (hp : s.phase = .hunt) :
    ∃ s', ReadsBytes s w.body s' ∧ s'.HoldsFrame w := by
  have hstart := ((readsBytes_info hp w.msgType w.len).append (readsBytes_speed rfl w.speed)).append
    (readsBytes_start rfl w.startRaw)
  generalize hs0 : State.setPhase _ (State.setStart _ _) = s0 at hstart
  obtain ⟨s1, hpoints, hheld, hs1⟩ : ∃ s1, ReadsBytes s0 (pointBytes w.points) s1 ∧ s1.HoldsPoints w.points ∧
      s1 = { s0 with phase := .endL, idx := s1.idx, ptDist := s1.ptDist, ptInt := s1.ptInt } := by
    subst hs0
    by_cases hnil : w.points = []
    · have hnone : w.len.toNat = 0 := by rw [WireFrame.len_toNat hw, hnil, List.length_nil]
      refine ⟨_, by rw [hnil]; exact .nil _, by rw [hnil]; exact holdsPoints_nil _, ?_⟩
      simp [State.setPhase, hasPoints, State.setInfo, State.setSpeed, State.setStart, hnone]
    · have hsome : 0 < w.len.toNat := by rw [WireFrame.len_toNat hw]; exact List.length_pos_iff.2 hnil
      exact readsBytes_points w.points [] hnil (by simp [hasPoints, hsome]) rfl
        (by simpa using WireFrame.len_toNat hw) (holdsPoints_nil _)
  have hread := ((hstart.append hpoints).append (readsBytes_end (by rw [hs1]) w.endRaw)).append
    (readsBytes_timestamp rfl w.timestamp)
  refine ⟨_, hread, ?_⟩
  subst hs0
  rw [hs1] at hheld ⊢
  exact ⟨rfl, rfl, rfl, rfl, rfl, rfl, rfl, hheld⟩

/-- The Frame item of the registers is the one the bytes stand for (R170 to R173). -/
theorem State.HoldsFrame.completedFrame {w : WireFrame} (hw : w.points.length ≤ 31) (h : s.HoldsFrame w) :
    completedFrame (s.setChecksum w.checksum) = w.decoded := by
  have hlen := WireFrame.len_toNat hw
  have hpoints : framePoints (s.setChecksum w.checksum) = w.decodedPoints := by
    apply List.ext_getElem?
    intro k
    by_cases hk : k < w.points.length
    · obtain ⟨hdist, hint⟩ := h.points ⟨k, hk.trans_le hw⟩ _ (List.getElem?_eq_getElem hk)
      have hk' : k < (s.setChecksum w.checksum).len.toNat := by rwa [State.setChecksum_len, h.len, hlen]
      rw [framePoints_getElem? _ ⟨k, hk.trans_le hw⟩ hk']
      simp [WireFrame.decodedPoints, hk, hdist, hint, h.len, h.startRaw, h.endRaw]
    · rw [List.getElem?_eq_none, List.getElem?_eq_none]
      · simpa [WireFrame.decodedPoints] using hk
      · simpa [h.len, hlen] using hk
  simp only [Machine.completedFrame, hpoints, WireFrame.decoded, State.setChecksum_msgType, State.setChecksum_len,
    State.setChecksum_speed, State.setChecksum_startRaw, State.setChecksum_endRaw, State.setChecksum_timestamp,
    State.setChecksum_checksum, h.msgType, h.len, h.speed, h.startRaw, h.endRaw, h.timestamp]

/-- The engine's run over a frame, one step a byte: the registers hold the frame, and CSUM dispatches its item. -/
theorem run_of_frame {w : WireFrame} (hw : w.points.length ≤ 31) (hp : s.phase = .hunt) (hr : s.inReady = true)
    {hs : List HostWord} (hq : Quiet (w.body.length + 1) hs) (rest : List Token) :
    ∃ s1 r, s1.HoldsFrame w ∧ s1 = (s.setPhase .csum).withFrame r ∧
      Host.Core.run core (w.body.length + 1) ((s.setHost hs).setChan (w.tokens ++ rest)) =
        .next (dispatchFrame w.decoded
          (((s1.setChecksum w.checksum).setHost (hs.drop (w.body.length + 1))).setChan rest)) := by
  obtain ⟨s1, hread, hheld⟩ := readsBytes_body hw hp
  have hr1 := hread.inReady hr
  obtain ⟨p, r, -, hs1⟩ := hread.withFrame ((State.inReady_iff s).1 hr).2.1
  obtain rfl : p = .csum := by rw [← hheld.phase, hs1]; rfl
  refine ⟨s1, r, hheld, hs1, ?_⟩
  obtain ⟨hqbody, hqcsum⟩ := quiet_add_iff.1 hq
  have htokens : w.tokens ++ rest = w.body.map byteToken ++ (byteToken w.checksum :: rest) := by
    simp [WireFrame.tokens, WireFrame.bytes_eq]
  have hcsum := step_of_quiet (rest := rest) hr1 (i := .csum w.checksum) (t := byteToken w.checksum)
    (by rw [hheld.phase]; exact decodeToken_byte .csum w.checksum) hqcsum
  rw [htokens, run_add (run_of_readsBytes hread hr hqbody), run_succ hcsum, List.tail_drop]
  rw [← hheld.completedFrame hw]
  rfl

end Sys2Proof.Machine
end

section
/-! PROOFS. What a consumer obtains of a frame: nothing of one cut short (60_exceptions.md R232), and of a whole one in
POINTS mode its points, one a PULL (45_streams.md R190, R194, R196). -/

namespace Sys2Proof.Machine

variable {s : State} {p : Point} {done todo ps : List Point} {hs : List HostWord}

/-! ### A frame cut short -/

/-- A Fail token after a proper part of a frame raises TransportError, with only PHASE and the frame's registers
changed. -/
theorem run_of_truncated {w : WireFrame} (hw : w.points.length ≤ 31) (hp : s.phase = .hunt) (hr : s.inReady = true)
    (hh : s.host = []) {n : ℕ} (hn : n ≤ w.body.length) {b : Byte} {rest : List Token}
    (hc : s.chan = w.tokens.take n ++ { fail := true, byte := b } :: rest) :
    ∃ q r, Host.Core.run core (n + 1) s = .next (raiseTransportError (((s.setPhase q).withFrame r).setChan rest)) := by
  obtain ⟨_, hbody, -⟩ := readsBytes_body hw hp
  obtain ⟨s1, hread⟩ := hbody.take n
  have hr1 := hread.inReady hr
  obtain ⟨q, r, hq, rfl⟩ := hread.withFrame ((State.inReady_iff s).1 hr).2.1
  have htokens : w.tokens.take n = (w.body.take n).map byteToken := by
    rw [WireFrame.tokens, WireFrame.bytes_eq, ← List.map_take, List.take_append_of_le_length hn]
  have hrun := run_of_readsBytes (rest := { fail := true, byte := b } :: rest) hread hr (quiet_nil _)
  rw [← htokens, ← hc, ← hh, List.length_take_of_le hn] at hrun
  have hfail := step_of_quiet (rest := rest) (t := { fail := true, byte := b }) hr1 (decodeToken_fail hq b) (quiet_nil 1)
  refine ⟨q, r, (run_add hrun).trans ?_⟩
  rw [hh, List.drop_nil, run_succ hfail, List.tail_nil, ← hh]
  rfl

/-! ### PULL and TAKE of the points in PBUF -/

/-- The consumer may PULL and obtains the next point of PBUF: `done` have been delivered, `todo` are left (R190). -/
structure State.Waiting (done todo : List Point) (s : State) : Prop where
  mode : s.mode = .points
  phase : s.phase = .idle
  req : s.req = false
  out : s.out = none
  fault : s.fault = none
  refused : s.refused = false
  pbuf : s.pbuf = done ++ todo
  pbNext : s.pbNext = done.length

/-- The state after the point in OUT was taken that PULL had delivered from PBUF. -/
def State.pointTaken (p : Point) (s : State) : State :=
  ((s.deliver (.point p)).setPbuf s.pbuf (s.pbNext + 1)).handOver (.point p)

theorem State.Waiting.pointTaken (h : s.Waiting done (p :: todo)) : (s.pointTaken p).Waiting (done ++ [p]) todo where
  mode := h.mode
  phase := h.phase
  req := rfl
  out := rfl
  fault := h.fault
  refused := h.refused
  pbuf := h.pbuf.trans (List.append_cons done p todo)
  pbNext := by simp [State.pointTaken, h.pbNext]

theorem step_of_pull (hh : s.host = plainEvent 0b01 :: hs) (hp : pullAllowed s = true) :
    step s = .next (s.setHost hs).pull :=
  (step_of_takesEvent ⟨_, hs, hh, rfl, rfl⟩).trans (exec_pull_of_allowed hp)

theorem step_of_take {it : Item} (hh : s.host = plainEvent 0b10 :: hs) (ho : s.out = some it) (hf : s.fault = none)
    (hr : s.refused = false) : step s = .next ((s.setHost hs).handOver it) :=
  (step_of_takesEvent ⟨_, hs, hh, rfl, rfl⟩).trans (exec_take_of_allowed ho ((State.running_iff s).2 ⟨hf, hr⟩))

theorem pull_of_waiting (h : s.Waiting done (p :: todo)) :
    s.pull = (s.deliver (.point p)).setPbuf s.pbuf (s.pbNext + 1) := by
  have hw : waitingPoint s = some p := (waitingPoint_iff s p).2 ⟨h.mode, by simp [h.pbuf, h.pbNext]⟩
  simp [State.pull, h.phase, hw]

theorem run_of_pull_take (h : s.Waiting done (p :: todo)) (hh : s.host = plainEvent 0b01 :: plainEvent 0b10 :: hs) (n : ℕ) :
    Host.Core.run core (n + 2) s = Host.Core.run core n ((s.pointTaken p).setHost hs) := by
  have hallowed : pullAllowed s = true := (pullAllowed_iff s).2 ⟨h.req, h.out, h.fault, h.refused⟩
  have hpull := step_of_pull hh hallowed
  rw [pull_of_waiting (s := s.setHost (plainEvent 0b10 :: hs)) { h with }] at hpull
  exact (run_succ hpull).trans (run_succ (step_of_take rfl rfl h.fault h.refused))

/-- PULL and TAKE, `n` times. -/
def pullTakes (n : ℕ) : List HostWord := (List.replicate n [plainEvent 0b01, plainEvent 0b10]).flatten

theorem pullTakes_succ (n : ℕ) : pullTakes (n + 1) = plainEvent 0b01 :: plainEvent 0b10 :: pullTakes n := rfl

theorem length_pullTakes (n : ℕ) : (pullTakes n).length = 2 * n := by
  induction n with
  | zero => rfl
  | succ n ih => rw [pullTakes_succ, List.length_cons, List.length_cons, ih, Nat.mul_succ]

/-- PULL and TAKE for each point left in PBUF give the consumer these points in order and read no token. -/
theorem run_of_pullTakes (h : s.Waiting done todo) (hh : s.host = pullTakes todo.length) :
    ∃ t, Host.Core.run core (2 * todo.length) s = .next t ∧ t.Waiting (done ++ todo) [] ∧
      t.taken = s.taken ++ todo.map Item.point ∧ t.chan = s.chan ∧ t.host = [] := by
  induction todo generalizing s done with
  | nil => exact ⟨s, rfl, by simpa using h, by simp, rfl, hh⟩
  | cons p todo ih =>
    obtain ⟨t, hrun, hwait, htaken, hchan, hhost⟩ :=
      ih (s := (s.pointTaken p).setHost (pullTakes todo.length)) { h.pointTaken with } rfl
    refine ⟨t, (run_of_pull_take h hh _).trans hrun, by simpa using hwait, ?_, hchan, hhost⟩
    simpa [State.pointTaken] using htaken

/-! ### The first point, for which the frame is read -/

/-- A PULL with PBUF exhausted begins a decode. -/
theorem pull_of_exhausted (hp : s.phase ≠ .term) (hx : s.pbuf.length ≤ s.pbNext) :
    s.pull = s.request.setPhase .hunt := by
  have hw : waitingPoint s = none := by simp [waitingPoint, hx]
  simp [State.pull, hp, hw]

theorem dispatchFrame_points {f : Frame} (hm : s.mode = .points) (hf : f.points = p :: ps) :
    dispatchFrame f s = ((s.setPbuf (p :: ps) 1).deliver (.point p)).setPhase .idle := by
  simp [dispatchFrame, hm, deliverPoints, hf]

section
variable (s : State) (r : FrameRegs)
@[simp] theorem withFrame_fault : (s.withFrame r).fault = s.fault := rfl
@[simp] theorem withFrame_refused : (s.withFrame r).refused = s.refused := rfl
@[simp] theorem withFrame_taken : (s.withFrame r).taken = s.taken := rfl
end

/-- PULL, the engine's steps over the frame and TAKE give the consumer the frame's first point. -/
theorem run_of_first_point {w : WireFrame} {rest : List Token} (hw : w.points.length ≤ 31)
    (hpoints : w.decodedPoints = p :: ps) (hm : s.mode = .points) (hp : s.phase = .idle) (hallowed : pullAllowed s = true)
    (hx : s.pbuf.length ≤ s.pbNext) (hc : s.chan = w.tokens ++ rest)
    (hh : s.host = plainEvent 0b01 :: (List.replicate (w.body.length + 1) (plainEvent 0b00) ++ plainEvent 0b10 :: hs)) :
    ∃ t, Host.Core.run core (w.body.length + 3) s = .next t ∧ t.Waiting [p] ps ∧
      t.taken = s.taken ++ [.point p] ∧ t.chan = rest ∧ t.host = hs := by
  obtain ⟨-, -, hfault, hrefused⟩ := (pullAllowed_iff s).1 hallowed
  have hpull := step_of_pull hh hallowed
  rw [pull_of_exhausted (by simp [hp]) (by simpa using hx)] at hpull
  have hready : (s.request.setPhase .hunt).inReady = true := (State.inReady_iff _).2 ⟨rfl, rfl, hfault, hrefused⟩
  have hquiet := quiet_replicate_append (w := plainEvent 0b00) (decodeEvent_of_ev_zero rfl) (w.body.length + 1)
    (plainEvent 0b10 :: hs)
  obtain ⟨s1, r, -, rfl, hframe⟩ := run_of_frame hw rfl hready hquiet rest
  rw [List.drop_left' List.length_replicate, dispatchFrame_points ?mode hpoints, ← hc] at hframe
  case mode => simpa using hm
  generalize hX : State.setPhase .idle _ = X at hframe
  have hXhost : X.host = plainEvent 0b10 :: hs := by simp [← hX]
  have htake := step_of_take (it := .point p) hXhost (by simp [← hX]) (by simpa [← hX] using hfault)
    (by simpa [← hX] using hrefused)
  refine ⟨_, (run_succ hpull).trans ((run_add hframe).trans (run_succ (n := 0) htake)), ?_, by simp [← hX],
    by simp [← hX], by simp⟩
  constructor <;> simp [← hX, hm, hfault, hrefused]

end Sys2Proof.Machine

namespace Sys2Proof

open Machine

/-- Settles O45: every byte of a proper part is taken before CSUM, so OUT is filled by FAIL alone. -/
theorem truncatedFrameDeliversNothing : Obligations.TruncatedFrameDeliversNothing := by
  intro w n b rest s hw hn hphase hreq hfault hrefused hhost hchan
  have hr : s.inReady = true := (State.inReady_iff s).2 ⟨hreq, by rw [hphase]; rfl, hfault, hrefused⟩
  have hle : n ≤ w.body.length := by simpa [WireFrame.tokens, WireFrame.bytes_eq, Nat.lt_succ_iff] using hn
  obtain ⟨q, r, hrun⟩ := run_of_truncated hw hphase hr hhost hle hchan
  refine ⟨_, hrun, ?_⟩
  rcases raiseTransportError_cases (((s.setPhase q).withFrame r).setChan rest) with ⟨hm, he⟩ | ⟨hm, he⟩ <;> rw [he]
  · exact ⟨rfl, rfl, rfl, fun _ => ⟨rfl, rfl⟩, fun hne => absurd hm hne⟩
  · exact ⟨rfl, rfl, rfl, fun heq => absurd heq hm, fun _ => ⟨rfl, rfl, rfl, rfl, rfl⟩⟩

/-- Settles O46: the first point comes by CSUM, with PBUF filled, and each further one out of PBUF. -/
theorem pointsPulledInWireOrder : Obligations.PointsPulledInWireOrder := by
  intro w rest s hpos hw hmode hphase hreq hout hfault hrefused hexh hchan hhost
  have hlen : w.decodedPoints.length = w.points.length := by simp [WireFrame.decodedPoints]
  obtain ⟨p, ps, hpoints⟩ := List.exists_cons_of_length_pos (hlen ▸ hpos)
  have hps : w.points.length = ps.length + 1 := by rw [← hlen, hpoints, List.length_cons]
  have hbody : 11 + 3 * w.points.length = w.body.length + 1 := by rw [w.length_body]; omega
  have hhost' : s.host = plainEvent 0b01 ::
      (List.replicate (w.body.length + 1) (plainEvent 0b00) ++ plainEvent 0b10 :: pullTakes ps.length) := by
    rw [hhost, hbody, hps, Nat.add_sub_cancel, pullTakes]
    simp
  obtain ⟨s1, hfirst, hwait, htaken, hchan1, hhost1⟩ := run_of_first_point hw hpoints hmode hphase
    ((pullAllowed_iff s).2 ⟨hreq, hout, hfault, hrefused⟩) hexh hchan hhost'
  obtain ⟨t, hrest, hend, htaken', hchan', hhost''⟩ := run_of_pullTakes hwait hhost1
  have hsteps : s.host.length = w.body.length + 3 + 2 * ps.length := by
    rw [hhost']
    simp [length_pullTakes]
    omega
  refine ⟨t, ?_, ?_, hchan'.trans hchan1, hhost'', hend.out, hend.req, hend.phase, ?_⟩
  · rw [hsteps, run_add hfirst, hrest]
  · rw [htaken', htaken, hpoints, List.map_cons, List.append_assoc, List.singleton_append]
  · rw [hend.pbNext, hend.pbuf, List.append_nil]

end Sys2Proof
end

section
/-! PROOFS. The decode word and its fields (30_encoding.md R90 to R92): every decode word is the word of a phase and a
token, so a claim about all of them is one about phases and tokens; the encoder undoes the decoder there. -/

namespace Sys2Proof

variable {p : Phase} {t t' : Token} {b : Byte} {i : Instr}

theorem dwFail_toNat (dw : BitVec 13) : (dwFail dw).toNat = dw.toNat / 256 % 2 := by
  rw [dwFail, BitVec.getLsbD, Nat.testBit_eq_decide_div_mod_eq]
  rcases Nat.mod_two_eq_zero_or_one (dw.toNat / 256) with h | h <;> simp [h]

/-- A decode word has no bits beside PHASE, FAIL and BYTE (R90). -/
theorem decodeWord_fields (dw : BitVec 13) : decodeWord (dwPhase dw) { fail := dwFail dw, byte := dwByte dw } = dw := by
  apply BitVec.eq_of_toNat_eq
  have := dw.isLt
  rw [decodeWord_toNat, dwFail_toNat, dwPhase, Phase.code_ofCode, dwByte, BitVec.extractLsb'_toNat,
    BitVec.extractLsb'_toNat, Nat.shiftRight_eq_div_pow, Nat.shiftRight_zero]
  omega

theorem exists_eq_decodeWord (dw : BitVec 13) : ∃ p t, dw = decodeWord p t := ⟨_, _, (decodeWord_fields dw).symm⟩

/-- PHASE of a decode word is the phase's code. -/
theorem phaseBits_decodeWord (p : Phase) (t : Token) : (decodeWord p t).extractLsb' 9 4 = p.code := by
  rw [← Phase.code_ofCode (BitVec.extractLsb' 9 4 _)]
  exact congrArg Phase.code (dwPhase_decodeWord p t)

theorem decodeWord_inj_iff {q : Phase} : decodeWord p t = decodeWord q t' ↔ p = q ∧ t = t' := by
  refine ⟨fun h => ?_, by rintro ⟨rfl, rfl⟩; rfl⟩
  have hp := congrArg dwPhase h
  have hf := congrArg dwFail h
  have hb := congrArg dwByte h
  simp only [dwPhase_decodeWord, dwFail_decodeWord, dwByte_decodeWord] at hp hf hb
  cases t; cases t'
  exact ⟨hp, by congr⟩

/-- The reading phases are the codes up to 0xD (R24). -/
theorem Phase.reading_iff (p : Phase) : p.reading = true ↔ p.code.toNat ≤ 0xD := by cases p <;> decide

/-- IDLE and TERM decode no token (R92). -/
theorem decodeToken_of_not_reading (h : p.reading = false) (t : Token) :
    decodeToken (decodeWord p t) = .error .noTokenInPhase := by
  rw [decodeToken_decodeWord]
  cases p
  case idle | term => cases t.fail <;> rfl
  all_goals cases h

/-- The encoder gives back the decode word of the phase and the byte from which an operation was decoded. -/
theorem encode_of_decodeByte (h : decodeByte p b = .ok i) : i.wf = true ∧ encode i = .token (byteWord p b) := by
  cases p
  case hunt =>
    rcases decodeByte_ok h with ⟨-, rfl, rfl⟩ | ⟨-, hb, rfl⟩ | h
    · exact ⟨rfl, rfl⟩
    · exact ⟨by simpa [Instr.wf] using hb, rfl⟩
    · simp at h
  all_goals cases h <;> exact ⟨rfl, rfl⟩

end Sys2Proof
end

section
/-! PROOFS. The opcode table against the decoder (30_encoding.md R90, R91). A row, and the operation the decoder selects,
depend on the byte of a token only in whether it is the sync byte, so both are compared on the phases with a sync byte
and with one other byte. -/

namespace Sys2Proof

variable {p : Phase} {t : Token} {r : TableRow}

/-- The token with every byte other than the sync byte replaced by 0. -/
def Token.syncOrZero (t : Token) : Token := { t with byte := if t.byte = Config.syncByte then Config.syncByte else 0#8 }

theorem zero_ne_syncByte : 0#8 ≠ Config.syncByte := by decide

theorem Token.syncOrZero_eq_sync_iff : t.syncOrZero = ⟨false, Config.syncByte⟩ ↔ t = ⟨false, Config.syncByte⟩ := by
  obtain ⟨f, b⟩ := t
  by_cases hb : b = Config.syncByte <;> simp [Token.syncOrZero, hb, zero_ne_syncByte]

/-- Every row but HUNT.SYNC's leaves the byte out of its mask. -/
theorem mask_byte_of_mem_tokenTable (hr : r ∈ tokenTable) :
    r = ⟨.huntSync, 0x0054, 0x1FFF, 0⟩ ∨ r.mask.extractLsb' 0 8 = 0 := by
  revert r; decide

/-- Above the byte a decode word holds PHASE and FAIL. -/
theorem getLsbD_decodeWord (p : Phase) (t : Token) {k : ℕ} (hk : 8 ≤ k) :
    (decodeWord p t).getLsbD k = (p.code ++ BitVec.ofBool t.fail).getLsbD (k - 8) :=
  BitVec.getLsbD_append.trans (if_neg hk.not_gt)

/-- A mask without the byte shows nothing of it. -/
theorem decodeWord_and_mask {m : BitVec 13} (hm : m.extractLsb' 0 8 = 0) {t' : Token} (hf : t.fail = t'.fail) :
    decodeWord p t &&& m = decodeWord p t' &&& m := by
  apply BitVec.eq_of_getLsbD_eq
  intro k _
  rw [BitVec.getLsbD_and, BitVec.getLsbD_and]
  rcases Nat.lt_or_ge k 8 with hk | hk
  · have hbit : m.getLsbD k = false := by
      have := congrArg (BitVec.getLsbD · k) hm
      simpa [hk] using this
    rw [hbit, Bool.and_false, Bool.and_false]
  · rw [getLsbD_decodeWord p t hk, getLsbD_decodeWord p t' hk, hf]

theorem matches_huntSync_iff :
    TableRow.matches ⟨.huntSync, 0x0054, 0x1FFF, 0⟩ (decodeWord p t) = true ↔ p = .hunt ∧ t = ⟨false, Config.syncByte⟩ := by
  have hmask : decodeWord p t &&& 0x1FFF = decodeWord p t := BitVec.and_allOnes
  have hbits : (0x0054 : BitVec 13) = decodeWord .hunt ⟨false, Config.syncByte⟩ := rfl
  rw [TableRow.matches, hmask, beq_iff_eq, hbits, decodeWord_inj_iff]

theorem matches_syncOrZero (hr : r ∈ tokenTable) :
    r.matches (decodeWord p t.syncOrZero) = true ↔ r.matches (decodeWord p t) = true := by
  rcases mask_byte_of_mem_tokenTable hr with rfl | hm
  · rw [matches_huntSync_iff, matches_huntSync_iff, Token.syncOrZero_eq_sync_iff]
  · rw [TableRow.matches, TableRow.matches, decodeWord_and_mask (t := t.syncOrZero) (t' := t) hm rfl]

/-- A row is selected if it matches and none that matches goes before it (R90). -/
theorem selected_iff {dw : BitVec 13} : r.selected dw = true ↔
    r.matches dw = true ∧ ∀ r' ∈ tokenTable, r'.matches dw = true → r.priority ≤ r'.priority := by
  simp only [TableRow.selected, Bool.and_eq_true, List.all_eq_true, Bool.or_eq_true, Bool.not_eq_true', decide_eq_true_eq,
    ← Bool.not_eq_true, ← imp_iff_not_or]

theorem selected_syncOrZero (hr : r ∈ tokenTable) :
    r.selected (decodeWord p t.syncOrZero) = true ↔ r.selected (decodeWord p t) = true := by
  rw [selected_iff, selected_iff, matches_syncOrZero hr]
  exact and_congr_right fun _ => forall₂_congr fun r' hr' => by rw [matches_syncOrZero hr']

/-- The row of the operation the decoder selects. -/
def decodedOp (dw : BitVec 13) : Option Op := (decodeToken dw).toOption.map Instr.op

theorem decodedOp_eq_some_iff {dw : BitVec 13} {o : Op} :
    decodedOp dw = some o ↔ ∃ i, decodeToken dw = .ok i ∧ i.op = o := by
  cases h : decodeToken dw <;> simp [decodedOp, h, Except.toOption]

theorem decodedOp_syncOrZero (p : Phase) (t : Token) :
    decodedOp (decodeWord p t.syncOrZero) = decodedOp (decodeWord p t) := by
  obtain ⟨f, b⟩ := t
  simp only [decodedOp, decodeToken_decodeWord, Token.syncOrZero]
  cases f
  case true => cases p <;> rfl
  case false =>
    cases p
    case hunt => by_cases hb : b = Config.syncByte <;> simp [hb, decodeByte, Except.toOption, Instr.op, zero_ne_syncByte]
    all_goals rfl

/-- On the sync byte and the byte 0 one row is selected, and it is the decoded operation's. -/
theorem existsUnique_row_sync_or_zero (hp : p.reading = true) : ∀ f : Bool, ∀ b ∈ [Config.syncByte, 0#8],
    ∃ r ∈ tokenTable, r.selected (decodeWord p ⟨f, b⟩) = true ∧
      (∀ r' ∈ tokenTable, r'.selected (decodeWord p ⟨f, b⟩) = true → r' = r) ∧
      decodedOp (decodeWord p ⟨f, b⟩) = some r.op := by
  cases p
  case idle | term => cases hp
  all_goals decide

theorem existsUnique_row (hp : p.reading = true) (t : Token) :
    ∃ r ∈ tokenTable, r.selected (decodeWord p t) = true ∧
      (∀ r' ∈ tokenTable, r'.selected (decodeWord p t) = true → r' = r) ∧ decodedOp (decodeWord p t) = some r.op := by
  have hbyte : t.syncOrZero.byte ∈ [Config.syncByte, 0#8] := by
    unfold Token.syncOrZero; split <;> simp
  obtain ⟨r, hr, hsel, huniq, hop⟩ := existsUnique_row_sync_or_zero hp t.fail _ hbyte
  refine ⟨r, hr, (selected_syncOrZero hr).1 hsel, fun r' hr' hsel' => ?_, (decodedOp_syncOrZero p t).symm.trans hop⟩
  exact huniq r' hr' ((selected_syncOrZero hr').2 hsel')

end Sys2Proof
end

section
/-! PROOFS. Err and whole frames (30_encoding.md R80, R81, R87; 60_exceptions.md R231, R233). -/

namespace Sys2Proof.Machine

variable {s s' : State} {i : Instr} {t : Token}

/-- A completed frame puts no Err in OUT (R154, R192 to R194, R211). -/
theorem out_dispatchFrame_ne_err (f : Frame) (hout : s.out = none) : (dispatchFrame f s).out ≠ some .err := by
  rcases dispatchFrame_cases f s with ⟨-, he⟩ | ⟨-, -, he⟩ | ⟨-, p, ps, -, he⟩ | ⟨-, he⟩ <;> rw [he]
  case inr.inr.inr =>
    rcases rotFrame_cases f s with ⟨-, he⟩ | ⟨-, -, he⟩ | ⟨-, -, he⟩ <;> rw [he] <;>
      simp [State.emitBatch, State.accumulate, hout]
  all_goals simp [hout]

/-- Of the token operations only FAIL in SINGLE mode puts Err in OUT (R231, R233). -/
theorem err_exec_token (hout : s.out = none) (hd : decodeToken (decodeWord s.phase t) = .ok i)
    (he : exec i s = .next s') (herr : s'.out = some .err) : s.mode = .single ∧ t.fail = true := by
  rcases decodeToken_ok hd with ⟨hfail, -, rfl⟩ | ⟨-, hb⟩
  · cases he
    rcases raiseTransportError_cases s with ⟨hm, -⟩ | ⟨-, he⟩
    · exact ⟨hm, hfail⟩
    · rw [he] at herr
      cases herr
  · by_cases hp : s.phase = .csum
    · rw [hp] at hb
      cases hb; cases he
      exact absurd herr (out_dispatchFrame_ne_err _ hout)
    · obtain ⟨p, r, -, rfl⟩ := exec_frameByte hb hp he
      exact absurd (hout.symm.trans herr) nofun

/-- In HUNT, bytes other than the sync byte leave the state as it is (R111, R113). -/
theorem readsBytes_junk {junk : List Byte} (hp : s.phase = .hunt) (hj : ∀ b ∈ junk, b ≠ Config.syncByte) :
    ReadsBytes s junk s := by
  induction junk with
  | nil => exact .nil s
  | cons b junk ih =>
    obtain ⟨hb, hj⟩ := List.forall_mem_cons.1 hj
    have hskip : exec (.huntSkip b) s = .next s := by
      simp only [exec, execHuntSkip, ← hp]
      rfl
    exact .cons (by simp [hp, decodeByte, hb]) (by simp [hp]) hskip (ih hj)

end Sys2Proof.Machine
end

section
/-! PROOFS. The statements of 30_encoding.md. -/

namespace Sys2Proof

open Machine

/-- Settles O1: a token operation by its phase, byte and FAIL bit, an event by its code and the mode's code. -/
theorem decodeEncodeRoundTrip : Obligations.DecodeEncodeRoundTrip := by
  intro i hwf
  cases i with
  | huntSkip b =>
    have hb : b ≠ Config.syncByte := by simpa [Instr.wf] using hwf
    exact (decodeToken_byte .hunt b).trans (by simp [decodeByte, hb])
  | fail p b => exact decodeToken_fail hwf b
  | pull | take => rfl
  | reset m rot => simp [encode, decode, decodeEvent]
  | _ => exact decodeToken_byte _ _

/-- Settles O2: FAIL keeps its phase and byte, and a byte's operation gives its phase back. -/
theorem decodedTokenEncodesBack : Obligations.DecodedTokenEncodesBack := by
  intro dw i hd
  obtain ⟨p, ⟨f, b⟩, rfl⟩ := exists_eq_decodeWord dw
  rcases decodeToken_ok hd with ⟨rfl, hp, rfl⟩ | ⟨rfl, hb⟩
  · exact ⟨hp, rfl⟩
  · exact encode_of_decodeByte hb

/-- Settles O3: the word is that of a reading phase and a token. -/
theorem exactlyOneRowPerReadingWord : Obligations.ExactlyOneRowPerReadingWord := by
  intro dw hphase
  obtain ⟨p, t, rfl⟩ := exists_eq_decodeWord dw
  rw [phaseBits_decodeWord, ← Phase.reading_iff] at hphase
  simpa only [decodedOp_eq_some_iff] using existsUnique_row hphase t

/-- Settles O40: no event puts Err in OUT, and of the tokens only Fail in SINGLE mode. -/
theorem errOnlyFromFailToken : Obligations.ErrOnlyFromFailToken := by
  intro s s' hout hstep herr
  rcases step_next_cases hstep with ⟨i, s1, hev, he⟩ | ⟨i, s1, htok, he⟩ | ⟨w, hs, -, -, -, rfl⟩
  · obtain ⟨w, hs, -, hd, rfl⟩ := hev
    obtain ⟨-, hend | ⟨-, p, hpoint, -⟩⟩ := out_exec_event (s := s.setHost hs) hout hd he herr
    · cases hend
    · cases hpoint
  · obtain ⟨t', hchan⟩ := chan_exec_of_takesToken htok he
    obtain ⟨hs, t, rest, -, hr, hc, hd, rfl⟩ := htok
    obtain rfl : t = t' := (List.cons.inj (hc.symm.trans hchan)).1
    obtain ⟨hmode, hfail⟩ := err_exec_token (s := (s.setHost hs).setChan rest) hout hd he herr
    exact ⟨hmode, ((State.inReady_iff s).1 hr).2.1, t, hchan, hfail⟩
  · exact absurd (hout.symm.trans herr) nofun

/-- Settles O44: the junk leaves the state as it is, and dispatching commutes with the frame's registers. -/
theorem frameDecodedFromHunt : Obligations.FrameDecodedFromHunt := by
  intro w junk rest s hw hjunk hphase hreq hfault hrefused hhost hchan
  have hbody : 11 + 3 * w.points.length = w.body.length + 1 := by rw [w.length_body]; omega
  refine ⟨by simp [WireFrame.tokens, WireFrame.bytes_eq, hbody], ?_⟩
  have hr : s.inReady = true := (State.inReady_iff s).2 ⟨hreq, by rw [hphase]; rfl, hfault, hrefused⟩
  have hskip := run_of_readsBytes (rest := w.tokens ++ rest) (readsBytes_junk hphase hjunk) hr (quiet_nil _)
  obtain ⟨_, r, ⟨-, hmsg, hlen, hspeed, hstart, hend, hts, -⟩, rfl, hframe⟩ := run_of_frame hw hphase hr (quiet_nil _) rest
  rw [List.drop_nil, ← hhost] at hskip hframe
  rw [← List.append_assoc, ← hchan] at hskip
  have hcommute := withFrame_dispatchFrame w.decoded { s with chan := rest, phase := .csum } { r with checksum := w.checksum }
  rw [hbody]
  refine ⟨_, ((run_add hskip).trans hframe).trans (congrArg _ hcommute), ?_⟩
  rw [← hmsg, ← hlen, ← hspeed, ← hstart, ← hend, ← hts]
  rfl

/-- Settles O4: a word that decodes has a reading phase, and in_ready asks for one. -/
theorem noTokenDecodedInIdleOrTerm : Obligations.NoTokenDecodedInIdleOrTerm := by
  refine ⟨fun dw hphase => ?_, fun s hphase => (fetchToken_none s).2 (.inl ?_)⟩
  · obtain ⟨p, t, rfl⟩ := exists_eq_decodeWord dw
    rw [phaseBits_decodeWord] at hphase
    refine decodeToken_of_not_reading ?_ t
    rw [← Bool.not_eq_true, Phase.reading_iff]
    omega
  · rcases hphase with hp | hp <;> simp [State.inReady, hp, Phase.reading]

/-- Settles O5: code by code; every value of `cfg_mode` is the code of a mode. -/
theorem eventCodes : Obligations.EventCodes := by
  rintro ⟨ev, mode, rot⟩
  refine ⟨decodeEvent_of_ev_zero, ?_, ?_, ?_⟩ <;> rintro rfl
  · rfl
  · rfl
  · exact ⟨Mode.ofCode mode, Mode.code_ofCode mode, rfl⟩

/-- Settles O6: each word is evaluated. -/
theorem writtenOutWordsDecode : Obligations.WrittenOutWordsDecode := by
  unfold Obligations.WrittenOutWordsDecode
  decide

/-- Settles O8: the step takes the event at the head of the list. -/
theorem stepRunsHostEvent : Obligations.StepRunsHostEvent :=
  fun _ _ h hs hhost hd => step_of_takesEvent ⟨h, hs, hhost, hd, rfl⟩

end Sys2Proof
end

section
/-! PROOFS. Decode words by their bits (30_encoding.md R90, R91): a word decodes to an operation exactly when it is the
operation's encoding, and with FAIL 0 its PHASE alone says how the byte is decoded. -/

namespace Sys2Proof

variable {dw : BitVec 13} {p : Phase} {i : Instr}

/-- The decode map and the encoder are inverse to each other (R90, R91). -/
theorem decodeToken_eq_ok_iff : decodeToken dw = .ok i ↔ i.wf = true ∧ encode i = .token dw := by
  refine ⟨decodedTokenEncodesBack dw i, fun ⟨hwf, he⟩ => ?_⟩
  have hd := decodeEncodeRoundTrip i hwf
  rwa [he] at hd

/-- The mask 0x1F00 keeps PHASE and FAIL and clears the byte. -/
theorem decodeWord_and_phaseFail (p : Phase) (t : Token) : decodeWord p t &&& 0x1F00 = decodeWord p ⟨t.fail, 0⟩ := by
  rw [decodeWord_and_mask (t := t) (t' := ⟨t.fail, 0⟩) (by decide) rfl]
  cases p <;> cases t.fail <;> rfl

/-- A word with a given PHASE and FAIL 0 is the word of that phase and of its own byte. -/
theorem eq_byteWord_of_and_mask (h : dw &&& 0x1F00 = byteWord p 0) : dw = byteWord p (dw.extractLsb' 0 8) := by
  obtain ⟨q, ⟨f, b⟩, rfl⟩ := exists_eq_decodeWord dw
  have hbyte : (decodeWord q ⟨f, b⟩).extractLsb' 0 8 = b := dwByte_decodeWord q ⟨f, b⟩
  rw [decodeWord_and_phaseFail, byteWord, decodeWord_inj_iff] at h
  obtain ⟨rfl, hf⟩ := h
  obtain rfl : f = false := congrArg Token.fail hf
  rw [hbyte, byteWord]

/-- A word with a given PHASE and FAIL 0 decodes to what the phase makes of its byte (R91). -/
theorem decodeToken_of_and_mask (h : dw &&& 0x1F00 = byteWord p 0) :
    decodeToken dw = decodeByte p (dw.extractLsb' 0 8) :=
  (congrArg decodeToken (eq_byteWord_of_and_mask h)).trans (decodeToken_byte p _)

end Sys2Proof
end

section
/-! PROOFS. The statements of 40_sync.md. -/

namespace Sys2Proof

open Machine

/-- Settles O12: the only word that decodes to HUNT.SYNC is its encoding, and the mask 0x1FFF keeps every bit. -/
theorem huntSyncBeginsFrame : Obligations.HuntSyncBeginsFrame := by
  refine ⟨fun dw => ?_, fun s => rfl⟩
  have hmask : dw &&& 0x1FFF = dw := BitVec.and_allOnes
  have henc : encode .huntSync = .token 0x0054 := rfl
  rw [decodeToken_eq_ok_iff, henc, hmask, Words.token.injEq, eq_comm (a := dw)]
  exact and_iff_right rfl

/-- Settles O13: the word is that of HUNT and its byte, which is not the sync byte, for then the word were 0x0054. -/
theorem huntSkipDiscardsByte : Obligations.HuntSkipDiscardsByte := by
  refine ⟨fun dw hphase hne => ?_, fun b s => rfl⟩
  have hphase : dw &&& 0x1F00 = byteWord .hunt 0 := hphase
  have hb : dw.extractLsb' 0 8 ≠ Config.syncByte := by
    intro hb
    have hdw := eq_byteWord_of_and_mask hphase
    rw [hb] at hdw
    exact hne hdw
  rw [decodeToken_of_and_mask hphase, decodeByte, if_neg hb]

end Sys2Proof
end

section
/-! PROOFS. The statements of 41_header_fields.md, with the trailer's byte lanes (43_trailer.md R150 to R153). With FAIL 0
the phase alone selects the operation, so each encoding is `decodeToken_of_and_mask` at that phase. -/

namespace Sys2Proof.Machine

/-- A payload follows exactly where LEN is not 0 (R124). -/
theorem hasPoints_iff_len_ne_zero (s : State) : hasPoints s = true ↔ s.len ≠ 0 := by
  rw [hasPoints_iff, Nat.pos_iff_ne_zero]
  exact (BitVec.toNat_inj (y := 0)).not

end Sys2Proof.Machine

namespace Sys2Proof

open Machine

/-- Settles O14: the fields of the info byte are its quotient and remainder by 32. -/
theorem infoUnpacksByte : Obligations.InfoUnpacksByte :=
  ⟨fun _ hdw => decodeToken_of_and_mask (p := .info) hdw,
    fun b _ => ⟨_, rfl, infoType_toNat b, infoLen_toNat b, rfl⟩⟩

/-- Settles O15: each operation writes the low byte lane of its field. -/
theorem lowBytesTaken : Obligations.LowBytesTaken := by
  refine ⟨fun dw => ⟨?spdL, ?staL, ?endL, ?tsL⟩, fun b s => ⟨?speed, ?start, ?endRaw, ?timestamp⟩⟩
  case spdL => exact decodeToken_of_and_mask (p := .spdL)
  case staL => exact decodeToken_of_and_mask (p := .staL)
  case endL => exact decodeToken_of_and_mask (p := .endL)
  case tsL => exact decodeToken_of_and_mask (p := .tsL)
  case speed => exact ⟨_, rfl, setLow_toNat s.speed b, rfl⟩
  case start => exact ⟨_, rfl, setLow_toNat s.startRaw b, rfl⟩
  case endRaw => exact ⟨_, rfl, setLow_toNat s.endRaw b, rfl⟩
  case timestamp => exact ⟨_, rfl, setLow_toNat s.timestamp b, rfl⟩

/-- Settles O16: each operation writes the high byte lane of its field. -/
theorem highBytesTaken : Obligations.HighBytesTaken := by
  refine ⟨fun dw => ⟨?spdH, ?endH, ?tsH⟩, fun b s => ⟨?speed, ?endRaw, ?timestamp⟩⟩
  case spdH => exact decodeToken_of_and_mask (p := .spdH)
  case endH => exact decodeToken_of_and_mask (p := .endH)
  case tsH => exact decodeToken_of_and_mask (p := .tsH)
  case speed => exact ⟨_, rfl, setHigh_toNat s.speed b, rfl⟩
  case endRaw => exact ⟨_, rfl, setHigh_toNat s.endRaw b, rfl⟩
  case timestamp => exact ⟨_, rfl, setHigh_toNat s.timestamp b, rfl⟩

/-- Settles O17: STA.H writes the high byte lane of START_RAW, and LEN decides the branch. -/
theorem startHighByteBranchesOnLen : Obligations.StartHighByteBranchesOnLen := by
  refine ⟨fun _ hdw => decodeToken_of_and_mask (p := .staH) hdw, fun b s => ?_⟩
  refine ⟨_, rfl, setHigh_toNat s.startRaw b, fun hlen => ?_, fun hlen => ?_⟩
  · rw [if_neg (mt (hasPoints_iff_len_ne_zero s).1 (not_not_intro hlen))]; rfl
  · rw [if_pos ((hasPoints_iff_len_ne_zero s).2 hlen)]; rfl

end Sys2Proof
end

section
/-! PROOFS. The statements of 42_payload.md. The point registers are read back by `setCurDist_get` and `setCurInt_get`;
with FAIL 0 the phase alone selects the operation. -/

namespace Sys2Proof.Machine

variable {s : State} {k : Fin 31}

theorem setCurDist_get_of_ne (h : k ≠ s.idx) (d : U16) : (s.setCurDist d).ptDist.get k = s.ptDist.get k := by
  rw [setCurDist_get, if_neg h]

theorem setCurInt_get_of_ne (h : k ≠ s.idx) (b : Byte) : (s.setCurInt b).ptInt.get k = s.ptInt.get k := by
  rw [setCurInt_get, if_neg h]

theorem setCurInt_get_idx (b : Byte) (s : State) : (s.setCurInt b).ptInt.get s.idx = b := by
  rw [setCurInt_get, if_pos rfl]

/-- With a further point to come, INT loops (R142). -/
theorem exec_int_of_morePoints (h : morePoints s = true) (b : Byte) :
    exec (.int b) s = .next (((s.setCurInt b).setIdx (s.idx + 1)).setPhase .dstL) :=
  congrArg Host.Outcome.next (if_pos h)

/-- At the last point, INT leaves the payload (R142). -/
theorem exec_int_of_lastPoint (h : ¬morePoints s = true) (b : Byte) :
    exec (.int b) s = .next ((s.setCurInt b).setPhase .endL) :=
  congrArg Host.Outcome.next (if_neg h)

end Sys2Proof.Machine

namespace Sys2Proof

open Machine

/-- Settles O18: each operation writes one byte lane of PT_DIST[IDX], and a write of PT_DIST[IDX] keeps the other
entries. -/
theorem distanceBytesTaken : Obligations.DistanceBytesTaken := by
  refine ⟨fun dw => ⟨?dstL, ?dstH⟩, fun b s => ⟨?low, ?high⟩⟩
  case dstL => exact decodeToken_of_and_mask (p := .dstL)
  case dstH => exact decodeToken_of_and_mask (p := .dstH)
  case low =>
    exact ⟨_, rfl, rfl, (congrArg BitVec.toNat (curDist_setCurDist _ s)).trans (setLow_toNat s.curDist b),
      fun k hk => setCurDist_get_of_ne hk _⟩
  case high =>
    exact ⟨_, rfl, rfl, (congrArg BitVec.toNat (curDist_setCurDist _ s)).trans (setHigh_toNat s.curDist b),
      fun k hk => setCurDist_get_of_ne hk _⟩

/-- Settles O19: by whether a further point is to come, which IDX + 1 < LEN decides and which keeps IDX + 1 from
wrapping. -/
theorem intensityTakenAndLooped : Obligations.IntensityTakenAndLooped := by
  refine ⟨fun _ hdw => decodeToken_of_and_mask (p := .int) hdw, fun b s => ?_⟩
  by_cases hmore : morePoints s = true
  · have hlt := (morePoints_iff s).1 hmore
    exact ⟨_, exec_int_of_morePoints hmore b, setCurInt_get_idx b s, fun k hk => setCurInt_get_of_ne hk b,
      fun _ => ⟨idx_succ_val hmore, rfl⟩, fun hle => absurd hlt hle.not_gt⟩
  · have hle := mt (morePoints_iff s).2 hmore
    exact ⟨_, exec_int_of_lastPoint hmore b, setCurInt_get_idx b s, fun k hk => setCurInt_get_of_ne hk b,
      fun hlt => absurd hlt hle, fun _ => rfl⟩

end Sys2Proof
end

section
/-! PROOFS. The statements of 43_trailer.md on CSUM (R154): what a completed frame holds (R170 to R173), and where
FrameComplete puts it in SINGLE, FRAMES and POINTS mode (R192 to R194). -/

namespace Sys2Proof.Machine

variable {s : State} {len : BitVec 5} {f : Frame}

/-- R170 with the constant 100.0 written out. -/
theorem degrees_eq (raw : U16) : degrees raw = F64.div (F64.ofNat raw.toNat) (F64.ofNat 100) := by
  rw [degrees, c100]

@[simp] theorem completedFrame_startAngle (s : State) : (completedFrame s).startAngle = degrees s.startRaw := by
  rw [completedFrame]

@[simp] theorem completedFrame_endAngle (s : State) : (completedFrame s).endAngle = degrees s.endRaw := by
  rw [completedFrame]

theorem increment_of_len_one (h : len.toNat = 1) (a0 a1 : F64) : increment len a0 a1 = F64.ofNat 0 :=
  if_neg (by omega)

theorem increment_of_two_le (h : 2 ≤ len.toNat) (a0 a1 : F64) :
    increment len a0 a1 = F64.div (F64.sub a1 a0) (F64.ofNat (len.toNat - 1)) :=
  if_pos h

/-- The points do not read the CHECKSUM register. -/
theorem framePoints_setChecksum (b : Byte) (s : State) : framePoints (s.setChecksum b) = framePoints s := rfl

theorem framePoints_eq_nil_iff (s : State) : framePoints s = [] ↔ s.len = 0 := by
  rw [← List.length_eq_zero_iff, framePoints_length]
  exact BitVec.toNat_inj (y := 0)

/-- CSUM stores its byte and dispatches the frame of the registers (R154). -/
theorem exec_csum (b : Byte) (s : State) :
    exec (.csum b) s = .next (dispatchFrame (completedFrame (s.setChecksum b)) (s.setChecksum b)) := rfl

/-- SINGLE and FRAMES mode deliver the item (R192, R193). -/
theorem dispatchFrame_frame (hm : s.mode = .single ∨ s.mode = .frames) :
    dispatchFrame f s = (s.deliver (.frame f)).setPhase .idle := by
  rcases hm with hm | hm <;> rw [dispatchFrame, hm] <;> rfl

/-- A frame without points leaves the PULL outstanding in POINTS mode (R194). -/
theorem dispatchFrame_noPoints (hm : s.mode = .points) (hf : f.points = []) :
    dispatchFrame f s = (s.setPbuf [] 0).setPhase .hunt := by
  simp [dispatchFrame, hm, deliverPoints, hf]

end Sys2Proof.Machine

namespace Sys2Proof

open Machine

/-- Settles O20: the item is the completed frame, whose points are those of `framePoints_getElem?`, with the increment by
LEN. -/
theorem checksumDeliversFrame : Obligations.ChecksumDeliversFrame := by
  intro b s hm
  refine ⟨completedFrame (s.setChecksum b), ?delivered, rfl, rfl, rfl, rfl, rfl, rfl, ?startAngle, ?endAngle,
    ?count, ?points⟩
  case delivered =>
    rw [exec_csum, dispatchFrame_frame (s := s.setChecksum b) hm]
    rfl
  case startAngle => rw [completedFrame_startAngle, degrees_eq, State.setChecksum_startRaw]
  case endAngle => rw [completedFrame_endAngle, degrees_eq, State.setChecksum_endRaw]
  case count => exact framePoints_length _
  case points =>
    intro k hk
    refine ⟨_, framePoints_getElem? s k hk, rfl, rfl, fun hone => ?_, fun htwo => ?_⟩
    · rw [increment_of_len_one hone, pointAngle, completedFrame_startAngle, State.setChecksum_startRaw]
    · rw [increment_of_two_le htwo, pointAngle, completedFrame_startAngle, completedFrame_endAngle,
        State.setChecksum_startRaw, State.setChecksum_endRaw]

/-- Settles O21: LEN is 0 exactly where the frame has no points. -/
theorem checksumDeliversFirstPoint : Obligations.ChecksumDeliversFirstPoint := by
  intro b s hm
  have hframe : (completedFrame (s.setChecksum b)).points = framePoints s := framePoints_setChecksum b s
  refine ⟨fun hlen => ?_, fun hlen => ?_⟩
  · have hnil := (framePoints_eq_nil_iff s).2 hlen
    rw [exec_csum, dispatchFrame_noPoints (s := s.setChecksum b) hm (hframe.trans hnil)]
    rfl
  · obtain ⟨p, ps, hps⟩ := List.exists_cons_of_ne_nil (mt (framePoints_eq_nil_iff s).1 hlen)
    refine ⟨p, ps, hps, hps ▸ framePoints_length s, ?_⟩
    rw [exec_csum, dispatchFrame_points (s := s.setChecksum b) hm (hframe.trans hps)]
    rfl

end Sys2Proof
end

section
/-! PROOFS. The angles of a completed frame (44_frame_complete.md R170 to R172, R176, R177): the conversion to degrees is
nearest and strictly increasing, every angle is small, and a zero increment term leaves the start angle as it is. -/

namespace Sys2Proof.F64

variable {x y : F64}

@[simp] theorem neg?_ofNat (n : ℕ) : neg? (ofNat n) = false := neg?_pack _ _ (roundMag_lt _ _)

theorem val_ofNat {n : ℕ} (hn : n < 2 ^ 53) : val (ofNat n) = n := (integerConversionExact n hn).2

theorem ofNat_zero : ofNat 0 = ⟨0⟩ := by
  rw [ofNat, zero_mul, roundMag_zero 1 one_pos]
  rfl

/-! ### The nearest value is near -/

/-- Every multiple of 1/1024 of at most 53 bits is a finite binary64. -/
theorem exists_val_eq_div_1024 {k : ℕ} (hk : k < 2 ^ 53) : ∃ y, isFinite y = true ∧ val y = (k : ℚ) / 1024 := by
  obtain ⟨m, hm⟩ := exists_unitsOf_eq_mul_pow 1064 k hk
  obtain ⟨m', hm', hu', -⟩ := ofNat_eq_pack hk
  have hle : m ≤ m' := by
    rw [← unitsOf_strictMono.le_iff_le, hm, hu']
    gcongr
    · norm_num
    · norm_num
  have hlt : m < infMag := hle.trans_lt hm'
  refine ⟨pack false m, isFinite_pack _ hlt, ?_⟩
  rw [val_pack _ (hlt.trans infMag_lt), hm, signOf, if_neg Bool.false_ne_true, one_mul, Nat.cast_mul, Nat.cast_pow,
    Nat.cast_ofNat, show (2 : ℚ) ^ 1074 = 2 ^ 1064 * 1024 by rw [show (1024 : ℚ) = 2 ^ 10 by norm_num, ← pow_add],
    mul_comm (k : ℚ), mul_div_mul_left _ _ (by positivity)]

/-- Rounding moves a number below 2^43 by at most 1/1024, the distance to a multiple of 1/1024 below it. -/
theorem abs_val_sub_le_of_roundsTo {q : ℚ} (h : RoundsTo q x) (h0 : 0 ≤ q) (hq : q < 2 ^ 43) :
    |val x - q| ≤ 1 / 1024 := by
  have hlo : (⌊q * 1024⌋₊ : ℚ) ≤ q * 1024 := Nat.floor_le (by positivity)
  have hhi : q * 1024 < ⌊q * 1024⌋₊ + 1 := Nat.lt_floor_add_one _
  have hk : ⌊q * 1024⌋₊ < 2 ^ 53 := by
    rw [Nat.floor_lt (by positivity)]
    norm_num at hq ⊢
    linarith
  obtain ⟨y, hy, hval⟩ := exists_val_eq_div_1024 hk
  refine (h.2 y hy).1.trans ?_
  rw [hval, abs_le]
  constructor <;> linarith

/-! ### Small products and quotients -/

theorem Within.mul {a b : ℚ} (hx : Within a x) (hy : Within b y) (hab : a * b ≤ 2 ^ 20) :
    Within (2 * (a * b)) (mul x y) := by
  refine within_of_roundsTo (fun h => mulCorrectlyRounded x y hx.1 hy.1 (inRange_of_abs_le h)) ?_ hab
  rw [abs_mul]
  exact mul_le_mul hx.2 hy.2 (abs_nonneg _) ((abs_nonneg _).trans hx.2)

theorem Within.div_ofNat {a : ℚ} {n : ℕ} (hx : Within a x) (hn : 0 < n) (hn' : n < 2 ^ 53) (ha : a ≤ 2 ^ 20) :
    Within (2 * a) (div x (ofNat n)) := by
  have hval := val_ofNat hn'
  have hne : val (ofNat n) ≠ 0 := by rw [hval]; exact_mod_cast hn.ne'
  refine within_of_roundsTo
    (fun h => divCorrectlyRounded x _ hx.1 (within_ofNat hn').1 hne (inRange_of_abs_le h)) ?_ ha
  rw [hval, abs_div, Nat.abs_cast]
  exact (div_le_self (abs_nonneg _) (by exact_mod_cast hn)).trans hx.2

theorem Within.mono {a b : ℚ} (hx : Within a x) (hab : a ≤ b) : Within b x := ⟨hx.1, hx.2.trans hab⟩

/-! ### Adding a zero -/

/-- A zero of either sign added to a value that is not negative leaves its encoding as it is. -/
theorem add_of_val_eq_zero (hx : isFinite x = true) (hpos : neg? x = false) (hy : isFinite y = true)
    (hzero : val y = 0) : add x y = x := by
  have hsx : signedUnits x = units x := by rw [signedUnits, hpos, if_neg Bool.false_ne_true]
  have hsy : signedUnits y = 0 := by rw [signedUnits, (val_eq_zero y).1 hzero]; simp
  have hmag : roundMag (units x) 1 = mag x := by
    rw [← mul_one (units x)]
    exact roundMag_exact _ 1 one_pos (by simpa [isFinite] using hx : mag x < infMag).le
  have hsign : (if (units x : ℤ) = 0 then false && neg? y else decide ((units x : ℤ) < 0)) = neg? x := by
    simp [hpos]
  rw [add_of_isFinite hx hy, roundSum_eq, hsx, hsy, add_zero, hpos, hsign, Int.natAbs_natCast, hmag, pack_neg?_mag]

end Sys2Proof.F64

namespace Sys2Proof.Machine

open F64

/-- R170: one rounding of the exact quotient. -/
theorem degrees_roundsTo (raw : U16) : RoundsTo ((raw.toNat : ℚ) / 100) (degrees raw) := by
  have hsmall : |(raw.toNat : ℚ) / 100| ≤ 2 ^ 20 := by
    rw [abs_of_nonneg (by positivity), div_le_iff₀ (by norm_num)]
    exact_mod_cast (by omega : raw.toNat ≤ 2 ^ 20 * 100)
  have hval := val_ofNat (show raw.toNat < 2 ^ 53 by omega)
  have hval100 : val (ofNat 100) = 100 := val_ofNat (by norm_num)
  have h := divCorrectlyRounded (ofNat raw.toNat) (ofNat 100) (within_ofNat (by omega)).1 (within_ofNat (by norm_num)).1
  rw [hval, hval100, ← degrees_eq] at h
  exact h (by norm_num) (inRange_of_abs_le hsmall)

/-- Distinct raw angles are at least 1/100 apart and rounding moves each by at most 1/1024, so their order is kept. -/
theorem val_degrees_lt {a b : U16} (hab : a.toNat < b.toNat) : val (degrees a) < val (degrees b) := by
  have hnear (raw : U16) : |val (degrees raw) - (raw.toNat : ℚ) / 100| ≤ 1 / 1024 := by
    refine abs_val_sub_le_of_roundsTo (degrees_roundsTo raw) (by positivity) ?_
    rw [div_lt_iff₀ (by norm_num)]
    exact_mod_cast (by omega : raw.toNat < 2 ^ 43 * 100)
  have hstep : (a.toNat : ℚ) + 1 ≤ b.toNat := by exact_mod_cast hab
  obtain ⟨-, ha⟩ := abs_le.1 (hnear a)
  obtain ⟨hb, -⟩ := abs_le.1 (hnear b)
  linarith

theorem val_degrees_le_iff (a b : U16) : val (degrees a) ≤ val (degrees b) ↔ a.toNat ≤ b.toNat := by
  refine ⟨fun h => not_lt.1 fun hlt => (val_degrees_lt hlt).not_ge h, fun h => ?_⟩
  rcases h.lt_or_eq with hlt | heq
  · exact (val_degrees_lt hlt).le
  · rw [BitVec.eq_of_toNat_eq heq]

/-- No angle is negative, a zero one neither. -/
theorem neg?_degrees (raw : U16) : neg? (degrees raw) = false := by
  have hne : val (ofNat 100) ≠ 0 := by rw [val_ofNat (by norm_num)]; norm_num
  obtain ⟨-, -, -, hdiv⟩ := zeroResultSigns (ofNat raw.toNat) (ofNat 100)
    (within_ofNat (by omega)).1 (within_ofNat (by norm_num)).1
  rw [degrees_eq, hdiv hne, neg?_ofNat, neg?_ofNat]
  rfl

/-- With fewer than two points the increment is +0.0 (R171). -/
theorem increment_of_le_one {len : BitVec 5} (h : len.toNat ≤ 1) (a0 a1 : F64) : increment len a0 a1 = ⟨0⟩ := by
  rw [increment, if_neg (by omega), ofNat_zero]

/-- The increment is at most a difference of two angles (R171). -/
theorem within_increment (a0 a1 : U16) (len : BitVec 5) :
    Within 10496 (increment len (degrees a0) (degrees a1)) := by
  rcases Nat.lt_or_ge len.toNat 2 with hlen | hlen
  · rw [increment_of_le_one (by omega), ← ofNat_zero]
    exact (within_ofNat (by norm_num)).mono (by norm_num)
  · rw [increment_of_two_le hlen]
    have hdiff := (within_degrees a1).sub (within_degrees a0) (by norm_num)
    exact (hdiff.div_ofNat (by omega) (by omega) (by norm_num)).mono (by norm_num)

/-- A frame has at most 31 points, so the last one is at most 30 increments away (R172). -/
theorem isFinite_pointAngle (a0 a1 : U16) (len : BitVec 5) {i : ℕ} (hi : i < len.toNat) :
    F64.isFinite (pointAngle (degrees a0) (increment len (degrees a0) (degrees a1)) i) = true := by
  have hi30 : Within 30 (F64.ofNat i) :=
    (within_ofNat (by omega)).mono (by exact_mod_cast (by omega : i ≤ 30))
  have hterm := (within_increment a0 a1 len).mul hi30 (by norm_num)
  exact ((within_degrees a0).add hterm (by norm_num)).1

/-- Zero increments away from the start is the start (R176). -/
theorem pointAngle_zero (a0 : U16) {inc : F64} (hinc : F64.isFinite inc = true) :
    pointAngle (degrees a0) inc 0 = degrees a0 := by
  have hzero : val (F64.ofNat 0) = 0 := by rw [val_ofNat (by norm_num), Nat.cast_zero]
  have hfin : F64.isFinite (F64.ofNat 0) = true := (within_ofNat (by norm_num)).1
  have hterm := mulCorrectlyRounded inc (F64.ofNat 0) hinc hfin
  rw [hzero, mul_zero] at hterm
  have hmul := hterm inRange_zero
  have hval : val (F64.mul inc (F64.ofNat 0)) = 0 := by simpa using abs_val_le_of_roundsTo hmul
  exact add_of_val_eq_zero (within_degrees a0).1 (neg?_degrees a0) hmul.1 hval

end Sys2Proof.Machine

namespace Sys2Proof

open Machine

/-- Settles O52: the comparison is that of the values, which increase strictly with the raw angle. -/
theorem degreesNearestAndMonotone : Obligations.DegreesNearestAndMonotone := by
  refine ⟨degrees_roundsTo, fun a b => ?_⟩
  have hge := (comparisonIsNumeric (degrees b) (degrees a)).1 (within_degrees b).1 (within_degrees a).1
  exact hge.trans (val_degrees_le_iff a b)

/-- Settles O53: each angle is far below the overflow bound. -/
theorem completionAnglesFinite : Obligations.CompletionAnglesFinite := by
  intro a0 a1 len i hi
  exact ⟨(within_degrees a0).1, (within_degrees a1).1, (within_increment a0 a1 len).1,
    isFinite_pointAngle a0 a1 len hi⟩

/-- Settles O54: the increment is finite, so zero times it is a zero, of whatever sign. -/
theorem firstPointAtStartAngle : Obligations.FirstPointAtStartAngle := by
  intro a0 a1 len
  exact ⟨pointAngle_zero a0 (within_increment a0 a1 len).1, fun hlen => increment_of_le_one hlen _ _⟩

end Sys2Proof
end

section
/-! PROOFS. What a host event does, said once (45_streams.md R190, R195; 70_reset_and_hazards.md R260), and what each of
PULL's answers asks of the state. -/

namespace Sys2Proof.Machine

variable {s s' : State} {i : Instr} {w : HostWord}

/-- A host event is refused, or is a PULL, TAKE or RESET within its precondition (R190, R195, R242, R260). -/
theorem exec_event_cases (hd : decodeEvent w = .ok i) (he : exec i s = .next s') :
    s' = s.refuse ∨
    (w.ev = 0b01 ∧ pullAllowed s = true ∧ s' = s.pull) ∨
    (w.ev = 0b10 ∧ ∃ it, s.out = some it ∧ s.running = true ∧ s' = s.handOver it) ∨
    (w.ev = 0b11 ∧ resetAllowed (Mode.ofCode w.cfgMode) w.cfgRotTarget = true ∧
      s' = s.applyReset (Mode.ofCode w.cfgMode) w.cfgRotTarget) := by
  rcases decodeEvent_ok hd with ⟨hev, rfl⟩ | ⟨hev, rfl⟩ | ⟨hev, rfl⟩
  · cases hp : pullAllowed s with
    | false =>
      cases (exec_pull_of_not_allowed hp).symm.trans he
      exact .inl rfl
    | true =>
      cases (exec_pull_of_allowed hp).symm.trans he
      exact .inr (.inl ⟨hev, rfl, rfl⟩)
  · cases ho : s.out with
    | none =>
      cases (exec_take_of_not_allowed (.inl ho)).symm.trans he
      exact .inl rfl
    | some it =>
      cases hr : s.running with
      | false =>
        cases (exec_take_of_not_allowed (.inr hr)).symm.trans he
        exact .inl rfl
      | true =>
        cases (exec_take_of_allowed ho hr).symm.trans he
        exact .inr (.inr (.inl ⟨hev, it, rfl, rfl, rfl⟩))
  · cases he
    cases hr : resetAllowed (Mode.ofCode w.cfgMode) w.cfgRotTarget
    · exact .inl rfl
    · exact .inr (.inr (.inr ⟨hev, rfl, rfl⟩))

/-- No point waits outside POINTS mode or with PBUF exhausted (R190). -/
theorem waitingPoint_eq_none_iff (s : State) :
    waitingPoint s = none ↔ (s.mode = .points → s.pbuf.length ≤ s.pbNext) := by
  by_cases hm : s.mode = .points <;> simp [waitingPoint, hm]

theorem pull_of_term (h : s.phase = .term) : s.pull = s.deliver .seqEnd := by
  simp [State.pull, h]

theorem pull_of_waitingPoint {p : Point} (h : s.phase ≠ .term) (hw : waitingPoint s = some p) :
    s.pull = (s.deliver (.point p)).setPbuf s.pbuf (s.pbNext + 1) := by
  simp [State.pull, h, hw]

theorem pull_of_no_waitingPoint (h : s.phase ≠ .term) (hw : waitingPoint s = none) :
    s.pull = s.request.setPhase .hunt := by
  simp [State.pull, h, hw]

end Sys2Proof.Machine
end

section
/-! PROOFS. The end of a sequence and what the consumer has taken (45_streams.md R195, R197; 60_exceptions.md R234): no token
is read in TERM, no token operation writes the list of taken items, and of the token operations only FAIL delivers End. -/

namespace Sys2Proof.Machine

variable {s s' s1 : State} {i : Instr} {t : Token}

theorem inReady_of_term (h : s.phase = .term) : s.inReady = false := by
  simp [State.inReady, h, Phase.reading]

/-! ### What the consumer has taken -/

@[simp] theorem taken_pull (s : State) : s.pull.taken = s.taken := by
  rcases pull_cases s with ⟨-, he⟩ | ⟨-, p, -, he⟩ | ⟨-, -, he⟩ <;> rw [he] <;> rfl

@[simp] theorem taken_raiseTransportError (s : State) : (raiseTransportError s).taken = s.taken := by
  rcases raiseTransportError_cases s with ⟨-, he⟩ | ⟨-, he⟩ <;> rw [he] <;> rfl

@[simp] theorem taken_rotFrame (f : Frame) (s : State) : (rotFrame f s).taken = s.taken := by
  rcases rotFrame_cases f s with ⟨-, he⟩ | ⟨-, -, he⟩ | ⟨-, -, he⟩ <;> rw [he] <;> rfl

@[simp] theorem taken_dispatchFrame (f : Frame) (s : State) : (dispatchFrame f s).taken = s.taken := by
  rcases dispatchFrame_cases f s with ⟨-, he⟩ | ⟨-, -, he⟩ | ⟨-, p, ps, -, he⟩ | ⟨-, he⟩ <;> rw [he]
  case inr.inr.inr => exact taken_rotFrame f s
  all_goals rfl

theorem taken_exec_token (hd : decodeToken (decodeWord s.phase t) = .ok i) (he : exec i s = .next s') :
    s'.taken = s.taken := by
  rcases decodeToken_ok hd with ⟨-, -, rfl⟩ | ⟨-, hb⟩
  · cases he
    exact taken_raiseTransportError s
  · by_cases hp : s.phase = .csum
    · rw [hp] at hb
      cases hb; cases he
      exact taken_dispatchFrame _ _
    · obtain ⟨p, r, -, rfl⟩ := exec_frameByte hb hp he
      rfl

/-! ### What delivers End -/

/-- A completed frame leaves OUT as it was or puts a Frame, a Point or a Batch in it (R192 to R194, R211). -/
theorem out_dispatchFrame_cases (f : Frame) (s : State) :
    (dispatchFrame f s).out = s.out ∨ (∃ f', (dispatchFrame f s).out = some (.frame f')) ∨
    (∃ p, (dispatchFrame f s).out = some (.point p)) ∨ ∃ ps, (dispatchFrame f s).out = some (.batch ps) := by
  rcases dispatchFrame_cases f s with ⟨-, he⟩ | ⟨-, -, he⟩ | ⟨-, p, ps, -, he⟩ | ⟨-, he⟩ <;> rw [he]
  · exact .inr (.inl ⟨f, rfl⟩)
  · exact .inl rfl
  · exact .inr (.inr (.inl ⟨p, rfl⟩))
  · rcases rotFrame_cases f s with ⟨-, he⟩ | ⟨-, -, he⟩ | ⟨-, -, he⟩ <;> rw [he]
    · exact .inl rfl
    · exact .inr (.inr (.inr ⟨_, rfl⟩))
    · exact .inl rfl

/-- Of the token operations only FAIL in a sequence mode puts End in OUT, and it leaves TERM (R232, R234). -/
theorem end_exec_token (hout : s.out = none) (hd : decodeToken (decodeWord s.phase t) = .ok i)
    (he : exec i s = .next s') (hend : s'.out = some .seqEnd) :
    s.mode ≠ .single ∧ s'.phase = .term ∧ t.fail = true := by
  rcases decodeToken_ok hd with ⟨hfail, -, rfl⟩ | ⟨-, hb⟩
  · cases he
    rcases raiseTransportError_cases s with ⟨-, he⟩ | ⟨hm, he⟩ <;> rw [he] at hend ⊢
    · cases hend
    · exact ⟨hm, rfl, hfail⟩
  · by_cases hp : s.phase = .csum
    · rw [hp] at hb
      cases hb; cases he
      rcases out_dispatchFrame_cases (completedFrame (s.setChecksum t.byte)) (s.setChecksum t.byte) with
        ho | ⟨_, ho⟩ | ⟨_, ho⟩ | ⟨_, ho⟩
      · exact absurd ((ho.symm.trans hend).symm.trans hout) nofun
      all_goals cases ho.symm.trans hend
    · obtain ⟨p, r, -, rfl⟩ := exec_frameByte hb hp he
      exact absurd (hout.symm.trans hend) nofun

/-- Of the host events only a PULL in TERM puts End in OUT (R190, R197). -/
theorem end_exec_event {w : HostWord} (hout : s.out = none) (hd : decodeEvent w = .ok i) (he : exec i s = .next s')
    (hend : s'.out = some .seqEnd) : s.phase = .term ∧ s'.phase = .term := by
  rcases exec_event_cases hd he with rfl | ⟨-, -, rfl⟩ | ⟨-, it, -, -, rfl⟩ | ⟨-, -, rfl⟩
  · exact absurd (hout.symm.trans hend) nofun
  · rcases pull_cases s with ⟨hp, he⟩ | ⟨-, p, -, he⟩ | ⟨-, -, he⟩ <;> rw [he] at hend ⊢
    · exact ⟨hp, hp⟩
    · cases hend
    · exact absurd (hout.symm.trans hend) nofun
  · cases hend
  · cases hend

end Sys2Proof.Machine
end

section
/-! PROOFS. The statements of 45_streams.md. -/

namespace Sys2Proof

open Machine

/-- Settles O34: in TERM no token is read, and a PULL within its precondition is answered with End. -/
theorem termIsAbsorbing : Obligations.TermIsAbsorbing := by
  intro s s' hterm hstep
  refine ⟨?_, fun h hs hh hev hreq hout ⟨hfault, hrefused⟩ => ?_⟩
  · rcases step_next_cases hstep with ⟨i, _, ⟨w, hs, hh, hd, rfl⟩, he⟩ | ⟨i, _, ⟨_, _, _, -, hr, -⟩, -⟩ |
      ⟨w, hs, -, -, -, rfl⟩
    · rcases exec_event_cases hd he with rfl | ⟨-, -, rfl⟩ | ⟨-, it, -, -, rfl⟩ | ⟨hev, -, rfl⟩
      · exact .inr ⟨hterm, rfl, .inl rfl⟩
      · rw [pull_of_term (s := s.setHost hs) hterm]
        exact .inr ⟨hterm, rfl, .inr (.inr rfl)⟩
      · exact .inr ⟨hterm, rfl, .inr (.inl rfl)⟩
      · exact .inl ⟨w, hs, hh, hev, rfl⟩
    · exact absurd ((inReady_of_term hterm).symm.trans hr) nofun
    · exact .inr ⟨hterm, rfl, .inl rfl⟩
  · obtain ⟨-, hpull, -, -⟩ := eventCodes h
    have hallowed : pullAllowed (s.setHost hs) = true := (pullAllowed_iff _).2 ⟨hreq, hout, hfault, hrefused⟩
    have hend := (step_of_takesEvent ⟨h, hs, hh, hpull hev, rfl⟩).trans (exec_pull_of_allowed hallowed)
    rw [pull_of_term (s := s.setHost hs) hterm] at hend
    cases hstep.symm.trans hend
    rfl

/-- Settles O38: of the events only TAKE writes the list of taken items, and no token operation does. -/
theorem takenGrowsOnlyByTake : Obligations.TakenGrowsOnlyByTake := by
  intro s s' hstep
  rcases step_next_cases hstep with ⟨i, _, ⟨w, hs, hh, hd, rfl⟩, he⟩ |
    ⟨i, _, ⟨hs, t, rest, -, -, -, hd, rfl⟩, he⟩ | ⟨w, hs, -, -, -, rfl⟩
  · rcases exec_event_cases hd he with rfl | ⟨-, -, rfl⟩ | ⟨hev, it, hout, -, rfl⟩ | ⟨-, -, rfl⟩
    · exact .inl rfl
    · exact .inl (taken_pull _)
    · exact .inr ⟨it, w, hs, hout, hh, hev, rfl, rfl⟩
    · exact .inl rfl
  · exact .inl (taken_exec_token (s := (s.setHost hs).setChan rest) hd he)
  · exact .inl rfl

/-- Settles O41: an event delivers End in TERM alone, which by the invariant only a sequence mode has; a token by FAIL. -/
theorem endOnlyFromFailureOrTerm : Obligations.EndOnlyFromFailureOrTerm := by
  intro s s' hinv hout hstep hend
  rcases step_next_cases hstep with ⟨i, s1, hev, he⟩ | ⟨i, s1, htok, he⟩ | ⟨w, hs, -, -, -, rfl⟩
  · have hchan := chan_exec_of_takesEvent hev he
    obtain ⟨w, hs, -, hd, rfl⟩ := hev
    obtain ⟨hterm, hterm'⟩ := end_exec_event (s := s.setHost hs) hout hd he hend
    obtain ⟨hmode, -⟩ := hinv.termMode hterm
    exact ⟨hmode, hterm', .inl ⟨hterm, hchan⟩⟩
  · obtain ⟨t', hchan⟩ := chan_exec_of_takesToken htok he
    obtain ⟨hs, t, rest, -, hr, hc, hd, rfl⟩ := htok
    obtain rfl : t = t' := (List.cons.inj (hc.symm.trans hchan)).1
    obtain ⟨hmode, hterm', hfail⟩ := end_exec_token (s := (s.setHost hs).setChan rest) hout hd he hend
    exact ⟨hmode, hterm', .inr ⟨((State.inReady_iff s).1 hr).2.1, t, hchan, hfail⟩⟩
  · exact absurd (hout.symm.trans hend) nofun

/-- Settles O24: the three answers are told apart by PHASE and by whether a point waits in PBUF. -/
theorem pullAnswersOrStartsDecode : Obligations.PullAnswersOrStartsDecode := by
  intro s
  rw [← pullAllowed_iff]
  refine ⟨fun hp => ?_, fun hp => exec_pull_of_not_allowed (Bool.eq_false_iff.2 hp)⟩
  rw [exec_pull_of_allowed hp]
  refine ⟨fun hterm => ?_, fun hterm hmode p hget => ?_, fun hterm hexhausted => ?_⟩
  · rw [pull_of_term hterm]
    rfl
  · rw [pull_of_waitingPoint hterm ((waitingPoint_iff s p).2 ⟨hmode, hget⟩)]
    rfl
  · rw [pull_of_no_waitingPoint hterm ((waitingPoint_eq_none_iff s).2 hexhausted)]
    rfl

/-- Settles O25: TAKE is accepted with an item in OUT and neither FAULT nor REFUSED set. -/
theorem takeHandsItemOver : Obligations.TakeHandsItemOver := by
  intro s
  refine ⟨fun it hout hfault hrefused => exec_take_of_allowed hout ((State.running_iff s).2 ⟨hfault, hrefused⟩),
    fun h => exec_take_of_not_allowed ?_⟩
  rwa [← State.running_iff, not_and_or, not_ne_iff, Bool.not_eq_true] at h

/-- Settles O28: the signals read OUT alone, and by the invariant a ready engine, which has REQ = 1, has it empty. -/
theorem outputSignals : Obligations.OutputSignals := by
  intro s
  have hvalid : s.outValid = true ↔ s.out ≠ none := Option.isSome_iff_ne_none
  have hkind {it : Item} (h : s.out = some it) : s.outKind = some (itemKind it) := congrArg (Option.map itemKind) h
  refine ⟨hvalid, fun h => ?_, fun _ => hkind, fun _ => hkind, fun _ => hkind, hkind,
    congrArg (Option.map itemKind), hkind, fun hinv hr => ?_⟩
  · obtain ⟨-, hrefused⟩ := takeHandsItemOver s
    rw [hvalid]
    exact not_imp_comm.1 hrefused h
  · obtain ⟨hreq, -⟩ := (State.inReady_iff s).1 hr
    rw [Bool.eq_false_iff, Ne, hvalid]
    exact fun hout => absurd (hreq.symm.trans (hinv.outReq hout)) nofun

end Sys2Proof
end

section
/-! PROOFS. Rotation aggregation (46_rotation.md): the sweep's two branches (R210), the exact threshold (R212), and what
CSUM does in ROTATIONS mode (R211, R213, R216). -/

namespace Sys2Proof.F64

variable {x y : F64} {q : ℚ}

/-- The nearest binary64 to a number that a binary64 stands for is that number. -/
theorem RoundsTo.val_eq (h : RoundsTo q x) (hy : isFinite y = true) (hq : val y = q) : val x = q := by
  obtain ⟨hle, -⟩ := h.2 y hy
  rw [hq, sub_self, abs_zero] at hle
  exact sub_eq_zero.1 (abs_nonpos_iff.1 hle)

theorem inRange_val (hx : isFinite x = true) : InRange (val x) := by
  rw [inRange_iff]
  refine (abs_val_le_of_isFinite hx).trans_lt ?_
  gcongr
  norm_num

/-- A product of integers that stays below 2^53 is exact. -/
theorem val_mul_ofNat {k n : ℕ} (hk : k < 2 ^ 53) (hn : n < 2 ^ 53) (hkn : k * n < 2 ^ 53) :
    isFinite (mul (ofNat k) (ofNat n)) = true ∧ val (mul (ofNat k) (ofNat n)) = (k : ℚ) * n := by
  obtain ⟨hfin, hval⟩ := integerConversionExact (k * n) hkn
  have hexact : val (ofNat (k * n)) = val (ofNat k) * val (ofNat n) := by
    rw [hval, val_ofNat hk, val_ofNat hn, Nat.cast_mul]
  have hround := mulCorrectlyRounded _ _ (within_ofNat hk).1 (within_ofNat hn).1 (hexact ▸ inRange_val hfin)
  refine ⟨hround.1, ?_⟩
  rw [hround.val_eq hfin hexact, val_ofNat hk, val_ofNat hn]

/-- A finite value minus itself is +0.0, whatever its sign. -/
theorem sub_self_of_isFinite (hx : isFinite x = true) : sub x x = ⟨0⟩ := by
  obtain ⟨-, hsub, -⟩ := zeroResultSigns x x hx hx
  rw [hsub (sub_self _), Bool.and_not_self]
  rfl

end Sys2Proof.F64

namespace Sys2Proof.Machine

open F64

variable {s : State} {f : Frame} {a0 a1 : U16}

/-- R210 with the constant 360.0 written out. -/
theorem sweep_eq (a0 a1 : F64) : sweep a0 a1 =
    if F64.ge a1 a0 then F64.sub a1 a0 else F64.add (F64.sub (F64.ofNat 360) a0) a1 := by
  rw [sweep, c360]

/-- R212 with the constant 360.0 written out. -/
theorem threshold_eq (rot : BitVec 32) : threshold rot = F64.mul (F64.ofNat rot.toNat) (F64.ofNat 360) := by
  rw [threshold, c360]

theorem sweep_degrees_of_le (h : a0.toNat ≤ a1.toNat) :
    sweep (degrees a0) (degrees a1) = F64.sub (degrees a1) (degrees a0) := by
  rw [sweep_eq, if_pos ((degreesNearestAndMonotone.2 a0 a1).2 h)]

theorem sweep_degrees_of_lt (h : a1.toNat < a0.toNat) :
    sweep (degrees a0) (degrees a1) = F64.add (F64.sub (F64.ofNat 360) (degrees a0)) (degrees a1) := by
  rw [sweep_eq, if_neg (mt (degreesNearestAndMonotone.2 a0 a1).1 h.not_ge)]

/-- The difference of two angles is rounded once. -/
theorem sub_degrees_roundsTo (a0 a1 : U16) :
    RoundsTo (val (degrees a1) - val (degrees a0)) (F64.sub (degrees a1) (degrees a0)) := by
  obtain ⟨hfin0, habs0⟩ := within_degrees a0
  obtain ⟨hfin1, habs1⟩ := within_degrees a1
  obtain ⟨-, hsub⟩ := addSubCorrectlyRounded (degrees a1) (degrees a0) hfin1 hfin0
  refine hsub (inRange_of_abs_le ?_)
  have htri := abs_sub (val (degrees a1)) (val (degrees a0))
  linarith

/-! ### CSUM in ROTATIONS mode -/

/-- ROTATIONS mode aggregates the frame (R174). -/
theorem dispatchFrame_rotations (hm : s.mode = .rotations) : dispatchFrame f s = rotFrame f s := by
  rw [dispatchFrame, hm]

theorem rotFrame_of_overflows (h : overflows s f.len.toNat = true) : rotFrame f s = s.overflow := if_pos h

theorem rotFrame_of_fits (h : overflows s f.len.toNat = false) : rotFrame f s =
    if batchDue (s.accumulate f).covered s.rotTarget then (s.accumulate f).emitBatch
    else (s.accumulate f).setPhase .hunt := if_neg (Bool.eq_false_iff.1 h)

/-- The points fit when PENDING_CAP is unbounded or not exceeded (R216). -/
theorem overflows_eq_false_iff (s : State) (n : ℕ) :
    overflows s n = false ↔ ∀ cap, s.pendingCap = some cap → s.pending.length + n ≤ cap := by
  rw [← Bool.not_eq_true, overflows_iff]
  simp only [not_exists, not_and, not_lt]

end Sys2Proof.Machine

namespace Sys2Proof

open Machine

/-- Settles O22: the procedure's tests are those of the statement, read from the frame of the registers. -/
theorem checksumAggregatesRotation : Obligations.ChecksumAggregatesRotation := by
  intro b s hm a0 a1 sw sum target
  set f := completedFrame (s.setChecksum b)
  have hsum : ((s.setChecksum b).accumulate f).covered = sum := by
    rw [covered_accumulate_completedFrame, sweep_eq, degrees_eq, degrees_eq]
    rfl
  have hdue : batchDue ((s.setChecksum b).accumulate f).covered (s.setChecksum b).rotTarget = F64.ge sum target := by
    rw [batchDue, hsum, threshold_eq, State.setChecksum_rotTarget]
  have hexec : exec (.csum b) s = .next (rotFrame f (s.setChecksum b)) := by
    rw [exec_csum, dispatchFrame_rotations (s := s.setChecksum b) hm]
  refine ⟨fun hover => ?_, fun hfits => ?_⟩
  · rw [hexec, rotFrame_of_overflows ((overflows_iff (s.setChecksum b) f.len.toNat).2 hover)]
    rfl
  · rw [hexec, rotFrame_of_fits ((overflows_eq_false_iff (s.setChecksum b) f.len.toNat).2 hfits), hdue]
    refine ⟨fun hge => ?_, fun hlt => ?_⟩
    · rw [if_pos hge]
      rfl
    · rw [if_neg (Bool.eq_false_iff.1 hlt), ← hsum]
      rfl

/-- Settles O55: comparing the angles compares the raw values. -/
theorem sweepBranchesOnRawAngles : Obligations.SweepBranchesOnRawAngles := by
  intro a0 a1
  refine ⟨fun hle => ?direct, sweep_degrees_of_lt, ?equal⟩
  case direct =>
    rw [sweep_degrees_of_le hle]
    exact ⟨rfl, sub_degrees_roundsTo a0 a1⟩
  case equal => rw [sweep_degrees_of_le le_rfl, F64.sub_self_of_isFinite (within_degrees a0).1]

/-- Settles O56: the product is below 2^32 * 360, which is below 2^53. -/
theorem thresholdExact : Obligations.ThresholdExact := by
  intro rot
  rw [threshold_eq]
  exact F64.val_mul_ofNat (by omega) (by norm_num) (by omega)

end Sys2Proof
end

section
/-! PROOFS. RESET and the refused host events (60_exceptions.md R242; 70_reset_and_hazards.md R260), a decode word with
FAIL 1 (R232), and what a step does to FAULT (46_rotation.md R216; 60_exceptions.md R243, R244). -/

namespace Sys2Proof.Machine

variable {s s' s1 : State} {m : Mode} {rot : BitVec 32}

theorem exec_reset_of_allowed (h : resetAllowed m rot = true) (s : State) :
    exec (.reset m rot) s = .next (s.applyReset m rot) := by
  simp [exec, execReset, h]

theorem exec_reset_of_not_allowed (h : resetAllowed m rot = false) (s : State) :
    exec (.reset m rot) s = .next s.refuse := by
  simp [exec, execReset, h]

theorem resetAllowed_ofCode_iff (c : BitVec 2) (rot : BitVec 32) :
    resetAllowed (Mode.ofCode c) rot = true ↔ ¬(c = 0b11 ∧ rot = 0) := by
  have hcode : Mode.ofCode c = .rotations ↔ c = 0b11 := by revert c; decide
  rw [resetAllowed_iff, hcode]
  rfl

/-- No agent has a step once FAULT or REFUSED is set (R244). -/
theorem State.running_eq_false_iff (s : State) : s.running = false ↔ s.fault ≠ none ∨ s.refused = true := by
  rw [← Bool.not_eq_true, State.running_iff, not_and_or, Bool.not_eq_false]

theorem inReady_of_not_running (h : s.running = false) : s.inReady = false := by
  simp [State.inReady, h]

theorem pullAllowed_of_not_running (h : s.running = false) : pullAllowed s = false := by
  simp [pullAllowed, h]

/-- A decode word with FAIL 1 and a reading phase is FAIL (R91, R232). -/
theorem decodeToken_of_dwFail {dw : BitVec 13} (hf : dwFail dw = true) (hp : (dwPhase dw).reading = true) :
    decodeToken dw = .ok (.fail (dwPhase dw) (dwByte dw)) := by
  rw [← decodeToken_fields, hf]
  exact decodeToken_fail hp (dwByte dw)

theorem dwFail_of_and_mask {dw : BitVec 13} (h : dw &&& 0x0100 = 0x0100) : dwFail dw = true := by
  simpa [dwFail] using congrArg (BitVec.getLsbD · 8) h

/-! ### What raises FAULT -/

@[simp] theorem fault_pull (s : State) : s.pull.fault = s.fault := by
  rcases pull_cases s with ⟨-, he⟩ | ⟨-, p, -, he⟩ | ⟨-, -, he⟩ <;> rw [he] <;> rfl

@[simp] theorem fault_raiseTransportError (s : State) : (raiseTransportError s).fault = s.fault := by
  rcases raiseTransportError_cases s with ⟨-, he⟩ | ⟨-, he⟩ <;> rw [he] <;> rfl

/-- A completed frame keeps FAULT, or is one that RotFrame has no room for, and then nothing else is written (R216). -/
theorem fault_dispatchFrame_cases (f : Frame) (s : State) :
    (dispatchFrame f s).fault = s.fault ∨
    (s.mode = .rotations ∧ overflows s f.len.toNat = true ∧ dispatchFrame f s = s.overflow) := by
  rcases dispatchFrame_cases f s with ⟨-, he⟩ | ⟨-, -, he⟩ | ⟨-, p, ps, -, he⟩ | ⟨hm, he⟩ <;> rw [he]
  case inr.inr.inr =>
    rcases rotFrame_cases f s with ⟨ho, he⟩ | ⟨-, -, he⟩ | ⟨-, -, he⟩ <;> rw [he]
    · exact .inr ⟨hm, ho, rfl⟩
    all_goals exact .inl rfl
  all_goals exact .inl rfl

/-- A step that raises FAULT is a CSUM in ROTATIONS mode that finds PENDING too full (R243). -/
theorem StepEffect.overflow_of_fault (h : StepEffect s s1 s') (hf : s1.fault = none) (hf' : s'.fault ≠ none) :
    s1.mode = .rotations ∧ s1.phase = .csum ∧ overflows s1 s1.len.toNat = true ∧
      ∃ b, s' = (s1.setChecksum b).overflow := by
  cases h with
  | eventless => exact absurd hf hf'
  | refuse => exact absurd hf hf'
  | pull => exact absurd ((fault_pull s1).trans hf) hf'
  | take => exact absurd hf hf'
  | reset => exact absurd rfl hf'
  | frameByte b i s' hr hd hp he =>
    obtain ⟨p, r, -, rfl⟩ := exec_frameByte hd hp he
    exact absurd hf hf'
  | csum b hr hp =>
    rcases fault_dispatchFrame_cases (completedFrame (s1.setChecksum b)) (s1.setChecksum b) with hkept | ⟨hm, ho, he⟩
    · exact absurd (hkept.trans hf) hf'
    · exact ⟨hm, hp, ho, b, he⟩
  | fail => exact absurd ((fault_raiseTransportError s1).trans hf) hf'

end Sys2Proof.Machine
end

section
/-! PROOFS. The statements of 60_exceptions.md and 70_reset_and_hazards.md. -/

namespace Sys2Proof

open Machine

/-- Settles O33: with FAULT or REFUSED set no token is taken and PULL and TAKE are refused, so a step is a refused event,
an eventless entry, or a RESET that is not refused. -/
theorem faultAndRefusedAreSticky : Obligations.FaultAndRefusedAreSticky := by
  intro s s' hset hstep
  have hrun := (State.running_eq_false_iff s).2 hset
  rcases step_next_cases hstep with ⟨i, _, ⟨w, hs, hh, hd, rfl⟩, he⟩ | ⟨i, _, ⟨_, _, _, -, hr, -⟩, -⟩ |
    ⟨w, hs, -, -, -, rfl⟩
  · rcases exec_event_cases hd he with rfl | ⟨-, hp, -⟩ | ⟨-, it, -, hr, -⟩ | ⟨hev, hr, rfl⟩
    · exact .inr ⟨rfl, fun _ => rfl⟩
    · exact absurd ((pullAllowed_of_not_running (s := s.setHost hs) hrun).symm.trans hp) nofun
    · exact absurd (hrun.symm.trans hr) nofun
    · exact .inl ⟨w, hs, hh, hev, (resetAllowed_ofCode_iff _ _).1 hr, rfl, rfl⟩
  · exact absurd ((inReady_of_not_running hrun).symm.trans hr) nofun
  · exact .inr ⟨rfl, id⟩

/-- Settles O42: only RotFrame raises FAULT, where the frame's points do not fit, and it then writes nothing else. -/
theorem overflowOnlyWhenBounded : Obligations.OverflowOnlyWhenBounded := by
  intro s s' hfault hstep hfault'
  obtain ⟨hs, ts, heff⟩ := step_effect hstep
  obtain ⟨hm, hp, ho, b, rfl⟩ := heff.overflow_of_fault hfault hfault'
  exact ⟨hm, hp, (overflows_iff _ _).1 ho, rfl, rfl, rfl, rfl⟩

/-- Settles O10: an agent that has a step has a next state, and the engine has none where the run stops. -/
theorem stepStopsOnlyAtRunEnd : Obligations.StepStopsOnlyAtRunEnd := by
  intro s
  suffices h : (∃ t, step s = .next t) ∨ (s.runOver ∧ step s = .fault s.whyStopped) by
    rcases h with ⟨t, ht⟩ | ⟨hover, ht⟩ <;> rw [ht]
    · exact ⟨nofun, nofun⟩
    · exact ⟨fun _ _ => hover, nofun⟩
  rcases step_enabled_cases s with ⟨i, s1, hev⟩ | ⟨i, s1, htok⟩ | ⟨hidle, w, hs, hh, hw⟩ | ⟨hidle, hh⟩
  · rw [step_of_takesEvent hev]
    exact .inl (exec_next i s1)
  · rw [step_of_takesToken htok]
    exact .inl (exec_next i s1)
  · exact .inl ⟨_, step_of_eventless hidle hh hw⟩
  · exact .inr ⟨⟨hh, (fetchToken_none s).2 hidle⟩, step_of_host_nil hidle hh⟩

/-- Settles O31: the reset values meet the invariant's clauses, and an accepted target is positive in ROTATIONS mode. -/
theorem resetEstablishesInvariant : Obligations.ResetEstablishesInvariant := by
  intro m rot s hrot
  have hr : resetAllowed m rot = true := (resetAllowed_iff m rot).2 fun ⟨hm, h0⟩ => hrot hm h0
  exact ⟨_, exec_reset_of_allowed hr s, inv_applyReset m rot s hr⟩

/-- Settles O23: FAIL is bit 8 of the decode word, and MODE decides the error entry. -/
theorem failEndsDecode : Obligations.FailEndsDecode := by
  refine ⟨fun dw hphase hfail => decodeToken_of_dwFail (dwFail_of_and_mask hfail) ?_,
    fun p b s => ⟨fun hm => ?_, fun hm => ?_⟩⟩
  · rw [Phase.reading_iff, dwPhase, Phase.code_ofCode]
    exact hphase
  · obtain ⟨-, he⟩ := (raiseTransportError_cases s).resolve_right fun ⟨hne, _⟩ => hne hm
    exact congrArg _ he
  · obtain ⟨-, he⟩ := (raiseTransportError_cases s).resolve_left fun ⟨hsingle, _⟩ => hm hsingle
    exact congrArg _ he

/-- Settles O26: each event is outside its precondition. -/
theorem refusedEventsSetRefused : Obligations.RefusedEventsSetRefused := by
  intro s
  refine ⟨fun h => exec_pull_of_not_allowed ?_, fun h => exec_take_of_not_allowed ?_, exec_reset_of_not_allowed rfl s⟩
  · rw [Bool.eq_false_iff, Ne, pullAllowed_iff]
    rintro ⟨hreq, hout, hfault, hrefused⟩
    simp [hreq, hout, hfault, hrefused] at h
  · exact h.imp_right (State.running_eq_false_iff s).2

/-- Settles O27: an accepted RESET is `applyReset`, whose registers hold the reset values. -/
theorem resetLoadsConfiguration : Obligations.ResetLoadsConfiguration := by
  intro m rot s
  refine ⟨fun ⟨hm, h0⟩ => ?_, fun h => ⟨_, exec_reset_of_allowed ((resetAllowed_iff m rot).2 h) s, ?_⟩⟩
  · subst hm h0
    exact exec_reset_of_not_allowed rfl s
  · simp [State.covered0, Vector.get_eq_getElem]

/-- Settles O30: State.reset is what RESET makes of itself with the inputs SINGLE and 1. -/
theorem invariantAtReset : Obligations.InvariantAtReset :=
  inv_applyReset .single 1 State.reset rfl

end Sys2Proof
end
